-- ==== Sys2Proof/Word.lean ====
section
/-! DEFINITION. The word types of the x87 core (spec/00_scope.md R10, R11). -/

namespace Sys2Proof

/-- One byte, the smallest addressable unit of memory (spec/20_memory.md R81). -/
abbrev Byte := BitVec 8

/-- A 16-bit register: status word, control word, selector (R10). -/
abbrev Word16 := BitVec 16

/-- A 32-bit register or offset: FIP, FDP, a general register, EIP (R10, R53). -/
abbrev Word32 := BitVec 32

/-- An 80-bit pattern of the double-extended format: sign in bit 79, biased exponent in bits 78:64,
significand in bits 63:0 (spec/10_state.md R32). Every one of the 2^80 patterns can be held. -/
abbrev F80 := BitVec 80

end Sys2Proof
end

