-- ==== Sys2Proof/Syntax.lean ====
section
/-! DEFINITION. The instructions: one constructor for each row of spec/opcode_table.json, and the memory operand forms of
spec/30_encoding.md R120. -/

namespace Sys2Proof

/-- `ADDR_SIZE`, supplied by the CPU per instruction (spec/00_scope.md R9, R114). -/
inductive AddrSize where
  | a16
  | a32
  deriving DecidableEq, Repr

/-- The segment registers a memory operand can use (R120, R122). -/
inductive Seg where
  | es
  | cs
  | ss
  | ds
  | fs
  | gs
  deriving DecidableEq, Repr

/-- The 32-bit general registers, numbered 0 to 7 in this order (R120). -/
inductive Reg32 where
  | eax
  | ecx
  | edx
  | ebx
  | esp
  | ebp
  | esi
  | edi
  deriving DecidableEq, Repr

/-- The base of an A16 form, numbered by rm 0 to 7 in this order (R120). -/
inductive Base16 where
  | bxSi
  | bxDi
  | bpSi
  | bpDi
  | si
  | di
  | bp
  | bx
  deriving DecidableEq, Repr

/-- The displacement of an A16 form: none (mod 00), 8 bits (mod 01) or 16 bits (mod 10). -/
inductive Disp16 where
  | none
  | d8 (d : BitVec 8)
  | d16 (d : BitVec 16)
  deriving DecidableEq, Repr

/-- The displacement of an A32 form: none (mod 00), 8 bits (mod 01) or 32 bits (mod 10). -/
inductive Disp32 where
  | none
  | d8 (d : BitVec 8)
  | d32 (d : BitVec 32)
  deriving DecidableEq, Repr

/-- A memory operand as R120's two tables give it. A SIB form keeps its scale even where there is no index, since the
scale bits are part of the encoding. The index register ESP stands for no index. -/
inductive MemOp where
  /-- A16, mod 00, rm 110: a 16-bit displacement and no base. -/
  | abs16 (d : BitVec 16)
  /-- A16: a base and a displacement. BP with no displacement has no encoding. -/
  | ind16 (b : Base16) (d : Disp16)
  /-- A32, mod 00, rm 101: a 32-bit displacement and no base. -/
  | abs32 (d : BitVec 32)
  /-- A32: a base register and a displacement. ESP has no such form, nor has EBP with no displacement. -/
  | ind32 (b : Reg32) (d : Disp32)
  /-- A32 with a SIB byte: base, scaled index, displacement. EBP with no displacement has no such form. -/
  | sib (scale : BitVec 2) (index : Reg32) (base : Reg32) (d : Disp32)
  /-- A32 with a SIB byte, mod 00, base 101: scaled index and a 32-bit displacement, no base. -/
  | sibAbs (scale : BitVec 2) (index : Reg32) (d : BitVec 32)
  deriving DecidableEq, Repr

/-- The address size a memory operand belongs to. -/
def MemOp.addrSize : MemOp → AddrSize
  | .abs16 _ => .a16
  | .ind16 _ _ => .a16
  | .abs32 _ => .a32
  | .ind32 _ _ => .a32
  | .sib _ _ _ _ => .a32
  | .sibAbs _ _ _ => .a32

/-- The instructions of spec/opcode_table.json, in the table's order. `m` is a memory operand and `i` names ST(i). The last
letters of a name are the row's form: FADD_st0_sti is `faddSt0Sti`. -/
inductive Instr where
  /-- FLD_m32fp, D9 /0 (R200). -/
  | fldM32fp (m : MemOp)
  /-- FLD_m64fp, DD /0 (R201). -/
  | fldM64fp (m : MemOp)
  /-- FLD_m80fp, DB /5 (R202). -/
  | fldM80fp (m : MemOp)
  /-- FLD_st, D9 C0+i (R203). -/
  | fldSt (i : BitVec 3)
  /-- FILD_m16int, DF /0 (R204). -/
  | fildM16int (m : MemOp)
  /-- FILD_m32int, DB /0 (R205). -/
  | fildM32int (m : MemOp)
  /-- FILD_m64int, DF /5 (R206). -/
  | fildM64int (m : MemOp)
  /-- FBLD, DF /4 (R207). -/
  | fbld (m : MemOp)
  /-- FST_m32fp, D9 /2 (R208). -/
  | fstM32fp (m : MemOp)
  /-- FST_m64fp, DD /2 (R209). -/
  | fstM64fp (m : MemOp)
  /-- FST_st, DD D0+i (R210). -/
  | fstSt (i : BitVec 3)
  /-- FSTP_m32fp, D9 /3 (R211). -/
  | fstpM32fp (m : MemOp)
  /-- FSTP_m64fp, DD /3 (R212). -/
  | fstpM64fp (m : MemOp)
  /-- FSTP_m80fp, DB /7 (R213). -/
  | fstpM80fp (m : MemOp)
  /-- FSTP_st, DD D8+i (R214). -/
  | fstpSt (i : BitVec 3)
  /-- FSTP1_st, D9 D8+i (R214). -/
  | fstp1St (i : BitVec 3)
  /-- FSTP8_st, DF D0+i (R214). -/
  | fstp8St (i : BitVec 3)
  /-- FSTP9_st, DF D8+i (R214). -/
  | fstp9St (i : BitVec 3)
  /-- FIST_m16int, DF /2 (R215). -/
  | fistM16int (m : MemOp)
  /-- FIST_m32int, DB /2 (R216). -/
  | fistM32int (m : MemOp)
  /-- FISTP_m16int, DF /3 (R217). -/
  | fistpM16int (m : MemOp)
  /-- FISTP_m32int, DB /3 (R218). -/
  | fistpM32int (m : MemOp)
  /-- FISTP_m64int, DF /7 (R219). -/
  | fistpM64int (m : MemOp)
  /-- FBSTP, DF /6 (R220). -/
  | fbstp (m : MemOp)
  /-- FLD1, D9 E8 (R222). -/
  | fld1
  /-- FLDL2T, D9 E9 (R223). -/
  | fldl2t
  /-- FLDL2E, D9 EA (R224). -/
  | fldl2e
  /-- FLDPI, D9 EB (R225). -/
  | fldpi
  /-- FLDLG2, D9 EC (R226). -/
  | fldlg2
  /-- FLDLN2, D9 ED (R227). -/
  | fldln2
  /-- FLDZ, D9 EE (R228). -/
  | fldz
  /-- FCMOVB, DA C0+i (R231). -/
  | fcmovb (i : BitVec 3)
  /-- FCMOVE, DA C8+i (R232). -/
  | fcmove (i : BitVec 3)
  /-- FCMOVBE, DA D0+i (R233). -/
  | fcmovbe (i : BitVec 3)
  /-- FCMOVU, DA D8+i (R234). -/
  | fcmovu (i : BitVec 3)
  /-- FCMOVNB, DB C0+i (R235). -/
  | fcmovnb (i : BitVec 3)
  /-- FCMOVNE, DB C8+i (R236). -/
  | fcmovne (i : BitVec 3)
  /-- FCMOVNBE, DB D0+i (R237). -/
  | fcmovnbe (i : BitVec 3)
  /-- FCMOVNU, DB D8+i (R238). -/
  | fcmovnu (i : BitVec 3)
  /-- FADD_m32fp, D8 /0 (R252). -/
  | faddM32fp (m : MemOp)
  /-- FADD_m64fp, DC /0 (R253). -/
  | faddM64fp (m : MemOp)
  /-- FADD_st0_sti, D8 C0+i (R254). -/
  | faddSt0Sti (i : BitVec 3)
  /-- FADD_sti_st0, DC C0+i (R255). -/
  | faddStiSt0 (i : BitVec 3)
  /-- FADDP, DE C0+i (R256). -/
  | faddp (i : BitVec 3)
  /-- FIADD_m32int, DA /0 (R257). -/
  | fiaddM32int (m : MemOp)
  /-- FIADD_m16int, DE /0 (R258). -/
  | fiaddM16int (m : MemOp)
  /-- FMUL_m32fp, D8 /1 (R259). -/
  | fmulM32fp (m : MemOp)
  /-- FMUL_m64fp, DC /1 (R260). -/
  | fmulM64fp (m : MemOp)
  /-- FMUL_st0_sti, D8 C8+i (R261). -/
  | fmulSt0Sti (i : BitVec 3)
  /-- FMUL_sti_st0, DC C8+i (R262). -/
  | fmulStiSt0 (i : BitVec 3)
  /-- FMULP, DE C8+i (R263). -/
  | fmulp (i : BitVec 3)
  /-- FIMUL_m32int, DA /1 (R264). -/
  | fimulM32int (m : MemOp)
  /-- FIMUL_m16int, DE /1 (R265). -/
  | fimulM16int (m : MemOp)
  /-- FSUB_m32fp, D8 /4 (R266). -/
  | fsubM32fp (m : MemOp)
  /-- FSUB_m64fp, DC /4 (R267). -/
  | fsubM64fp (m : MemOp)
  /-- FSUB_st0_sti, D8 E0+i (R268). -/
  | fsubSt0Sti (i : BitVec 3)
  /-- FSUB_sti_st0, DC E8+i (R269). -/
  | fsubStiSt0 (i : BitVec 3)
  /-- FSUBP, DE E8+i (R270). -/
  | fsubp (i : BitVec 3)
  /-- FISUB_m32int, DA /4 (R271). -/
  | fisubM32int (m : MemOp)
  /-- FISUB_m16int, DE /4 (R272). -/
  | fisubM16int (m : MemOp)
  /-- FSUBR_m32fp, D8 /5 (R273). -/
  | fsubrM32fp (m : MemOp)
  /-- FSUBR_m64fp, DC /5 (R274). -/
  | fsubrM64fp (m : MemOp)
  /-- FSUBR_st0_sti, D8 E8+i (R275). -/
  | fsubrSt0Sti (i : BitVec 3)
  /-- FSUBR_sti_st0, DC E0+i (R276). -/
  | fsubrStiSt0 (i : BitVec 3)
  /-- FSUBRP, DE E0+i (R277). -/
  | fsubrp (i : BitVec 3)
  /-- FISUBR_m32int, DA /5 (R278). -/
  | fisubrM32int (m : MemOp)
  /-- FISUBR_m16int, DE /5 (R279). -/
  | fisubrM16int (m : MemOp)
  /-- FDIV_m32fp, D8 /6 (R280). -/
  | fdivM32fp (m : MemOp)
  /-- FDIV_m64fp, DC /6 (R281). -/
  | fdivM64fp (m : MemOp)
  /-- FDIV_st0_sti, D8 F0+i (R282). -/
  | fdivSt0Sti (i : BitVec 3)
  /-- FDIV_sti_st0, DC F8+i (R283). -/
  | fdivStiSt0 (i : BitVec 3)
  /-- FDIVP, DE F8+i (R284). -/
  | fdivp (i : BitVec 3)
  /-- FIDIV_m32int, DA /6 (R285). -/
  | fidivM32int (m : MemOp)
  /-- FIDIV_m16int, DE /6 (R286). -/
  | fidivM16int (m : MemOp)
  /-- FDIVR_m32fp, D8 /7 (R287). -/
  | fdivrM32fp (m : MemOp)
  /-- FDIVR_m64fp, DC /7 (R288). -/
  | fdivrM64fp (m : MemOp)
  /-- FDIVR_st0_sti, D8 F8+i (R289). -/
  | fdivrSt0Sti (i : BitVec 3)
  /-- FDIVR_sti_st0, DC F0+i (R290). -/
  | fdivrStiSt0 (i : BitVec 3)
  /-- FDIVRP, DE F0+i (R291). -/
  | fdivrp (i : BitVec 3)
  /-- FIDIVR_m32int, DA /7 (R292). -/
  | fidivrM32int (m : MemOp)
  /-- FIDIVR_m16int, DE /7 (R293). -/
  | fidivrM16int (m : MemOp)
  /-- FABS, D9 E1 (R294). -/
  | fabs
  /-- FCHS, D9 E0 (R295). -/
  | fchs
  /-- FSQRT, D9 FA (R296). -/
  | fsqrt
  /-- FRNDINT, D9 FC (R297). -/
  | frndint
  /-- FSCALE, D9 FD (R298). -/
  | fscale
  /-- FXTRACT, D9 F4 (R299). -/
  | fxtract
  /-- FPREM, D9 F8 (R300). -/
  | fprem
  /-- FPREM1, D9 F5 (R301). -/
  | fprem1
  /-- F2XM1, D9 F0 (R307). -/
  | f2xm1
  /-- FYL2X, D9 F1 (R308). -/
  | fyl2x
  /-- FYL2XP1, D9 F9 (R309). -/
  | fyl2xp1
  /-- FPTAN, D9 F2 (R310). -/
  | fptan
  /-- FPATAN, D9 F3 (R311). -/
  | fpatan
  /-- FSIN, D9 FE (R312). -/
  | fsin
  /-- FCOS, D9 FF (R313). -/
  | fcos
  /-- FSINCOS, D9 FB (R314). -/
  | fsincos
  /-- FCOM_m32fp, D8 /2 (R321). -/
  | fcomM32fp (m : MemOp)
  /-- FCOM_m64fp, DC /2 (R322). -/
  | fcomM64fp (m : MemOp)
  /-- FCOM_st, D8 D0+i (R323). -/
  | fcomSt (i : BitVec 3)
  /-- FCOM2_st, DC D0+i (R323). -/
  | fcom2St (i : BitVec 3)
  /-- FCOMP_m32fp, D8 /3 (R324). -/
  | fcompM32fp (m : MemOp)
  /-- FCOMP_m64fp, DC /3 (R325). -/
  | fcompM64fp (m : MemOp)
  /-- FCOMP_st, D8 D8+i (R326). -/
  | fcompSt (i : BitVec 3)
  /-- FCOMP3_st, DC D8+i (R326). -/
  | fcomp3St (i : BitVec 3)
  /-- FCOMP5_st, DE D0+i (R326). -/
  | fcomp5St (i : BitVec 3)
  /-- FCOMPP, DE D9 (R327). -/
  | fcompp
  /-- FUCOM, DD E0+i (R328). -/
  | fucom (i : BitVec 3)
  /-- FUCOMP, DD E8+i (R329). -/
  | fucomp (i : BitVec 3)
  /-- FUCOMPP, DA E9 (R335). -/
  | fucompp
  /-- FCOMI, DB F0+i (R331). -/
  | fcomi (i : BitVec 3)
  /-- FCOMIP, DF F0+i (R332). -/
  | fcomip (i : BitVec 3)
  /-- FUCOMI, DB E8+i (R333). -/
  | fucomi (i : BitVec 3)
  /-- FUCOMIP, DF E8+i (R334). -/
  | fucomip (i : BitVec 3)
  /-- FXAM, D9 E5 (R336). -/
  | fxam
  /-- FTST, D9 E4 (R337). -/
  | ftst
  /-- FICOM_m16int, DE /2 (R338). -/
  | ficomM16int (m : MemOp)
  /-- FICOM_m32int, DA /2 (R339). -/
  | ficomM32int (m : MemOp)
  /-- FICOMP_m16int, DE /3 (R340). -/
  | ficompM16int (m : MemOp)
  /-- FICOMP_m32int, DA /3 (R341). -/
  | ficompM32int (m : MemOp)
  /-- FXCH_st, D9 C8+i (R350). -/
  | fxchSt (i : BitVec 3)
  /-- FXCH4_st, DD C8+i (R350). -/
  | fxch4St (i : BitVec 3)
  /-- FXCH7_st, DF C8+i (R350). -/
  | fxch7St (i : BitVec 3)
  /-- FINCSTP, D9 F7 (R351). -/
  | fincstp
  /-- FDECSTP, D9 F6 (R352). -/
  | fdecstp
  /-- FFREE, DD C0+i (R353). -/
  | ffree (i : BitVec 3)
  /-- FFREEP, DF C0+i (R354). -/
  | ffreep (i : BitVec 3)
  /-- FNOP, D9 D0 (R355). -/
  | fnop
  /-- FNSTCW, D9 /7 (R371). -/
  | fnstcw (m : MemOp)
  /-- FLDCW, D9 /5 (R372). -/
  | fldcw (m : MemOp)
  /-- FNSTSW_m2byte, DD /7 (R373). -/
  | fnstswM2byte (m : MemOp)
  /-- FNSTSW_AX, DF E0 (R377). -/
  | fnstswAx
  /-- FNCLEX, DB E2 (R374). -/
  | fnclex
  /-- FNINIT, DB E3 (R375). -/
  | fninit
  /-- FNENI, DB E0 (R378). -/
  | fneni
  /-- FNDISI, DB E1 (R379). -/
  | fndisi
  /-- FNSETPM, DB E4 (R380). -/
  | fnsetpm
  /-- FNSTENV, D9 /6 (R384). -/
  | fnstenv (m : MemOp)
  /-- FLDENV, D9 /4 (R385). -/
  | fldenv (m : MemOp)
  /-- FNSAVE, DD /6 (R386). -/
  | fnsave (m : MemOp)
  /-- FRSTOR, DD /4 (R387). -/
  | frstor (m : MemOp)
  /-- WAIT, 9B (R400). -/
  | wait
  deriving DecidableEq, Repr

end Sys2Proof
end

