-- ==== Sys2Proof/Config.lean ====
section
/-! DEFINITION. The parameters the spec names (spec/00_scope.md R9) and the free values it leaves open (R13, `draw`).
A parameter with a finite list of settings is a field of `Params`, which a machine state carries and no step changes, so
a claim covers every setting. A value the spec leaves free is a constant with no body: no proof can see what it is. -/

namespace Sys2Proof

/-- Rounding control CW.RC (spec/10_state.md R45). -/
inductive RC where
  /-- 00: to nearest, ties to even. -/
  | rn
  /-- 01: down, toward -infinity. -/
  | rd
  /-- 10: up, toward +infinity. -/
  | ru
  /-- 11: toward zero. -/
  | rz
  deriving DecidableEq, Repr

/-- `OP_SIZE`, the operand-size attribute (R9, R55). -/
inductive OpSize where
  | o16
  | o32
  deriving DecidableEq, Repr

/-- `CPU_MODE` (R9, R55). It chooses only the environment layout (spec/20_memory.md R86). -/
inductive CpuMode where
  | real
  | prot
  | vm86
  deriving DecidableEq, Repr

/-- `TININESS` (spec/40_numerics.md R161, D22). -/
inductive Tininess where
  | beforeRounding
  | afterRounding
  deriving DecidableEq, Repr

/-- `PC01_PRECISION`: the precision the reserved PC encoding 01 selects (R44, D23). -/
inductive Pc01 where
  | p24
  | p53
  | p64
  deriving DecidableEq, Repr

/-- `RESET_STATE` (R71, D17). -/
inductive ResetState where
  | fninitLike
  | intelReset
  deriving DecidableEq, Repr

/-- `MF_DELIVERY` (spec/60_exceptions.md R426, D8): what the CPU does with the deferred request NE_REQ. -/
inductive MfDelivery where
  /-- The spec's reference value: at the next instruction boundary the CPU clears NE_REQ and delivers vector 16, with the
  saved EIP at the reporting instruction's first byte. -/
  | nextBoundary
  /-- Any other CPU policy: NE_REQ stays set, and what the CPU does with it lies outside the steps of this machine. -/
  | outside
  deriving DecidableEq, Repr

/-- `IRQ13_RESUME` (R428, D9): where execution resumes after the IRQ 13 path. -/
inductive Irq13Resume where
  | retry
  | next
  deriving DecidableEq, Repr

/-- One behaviour of `UNDEF_ESC` for one undefined encoding (spec/30_encoding.md R126). -/
inductive UndefBehaviour where
  /-- No meaning, no step: the spec's value. -/
  | refuse
  /-- Execute as FNOP (spec/45_stack.md R355). -/
  | nop
  /-- Raise CPUFault(6). -/
  | ud
  /-- ALIAS: execute as the given row. The operand written with the row stands only where the encoding has none of the row's
  kind (notes/assumptions/24.md). -/
  | likeRow (row : Instr)
  deriving DecidableEq, Repr

/-- The parameters of R9 that have a finite list of settings. -/
structure Params where
  /-- `P6_EXT` (D1): FCMOVcc, FCOMI, FCOMIP, FUCOMI and FUCOMIP exist. -/
  p6Ext : Bool
  /-- `UNDOC_ALIASES` (D11): the alias rows of R125 exist. -/
  undocAliases : Bool
  /-- `SOFTFLOAT` (D5): software-emulated mode, as opposed to native passthrough. -/
  softfloat : Bool
  /-- `UNDEF_ESC` (D10): the behaviour of the listed undefined encodings (escape byte in bits 15:8, ModRM byte in bits 7:0).
  An encoding with no entry takes REFUSE. -/
  undefEsc : List (Word16 × UndefBehaviour)
  /-- `TININESS` (D22). -/
  tininess : Tininess
  /-- `PC01_PRECISION` (D23). -/
  pc01 : Pc01
  /-- `MF_DELIVERY` (D8). -/
  mfDelivery : MfDelivery
  /-- `IRQ13_RESUME` (D9). -/
  irq13Resume : Irq13Resume
  deriving DecidableEq, Repr

/-- The values R9 takes, with a choice where R9 says OPEN (DESIGN CHOICE, notes/assumptions/10.md). -/
def Params.taken : Params where
  p6Ext := true
  undocAliases := true
  softfloat := true
  undefEsc := []
  tininess := .afterRounding
  pc01 := .p64
  mfDelivery := .nextBoundary
  irq13Resume := .retry

/-- The functions of `TRANS` (spec/43_transcendental.md R305). -/
inductive TransFn where
  | exp2m1
  | log2
  | log2p1
  | tan
  | atan2
  | sin
  | cos
  deriving DecidableEq, Repr

/-! The free values. `Config.free…` take the state's counter of draws, so that each draw is fresh
(notes/assumptions/12.md); the others are pure functions of the operands. -/

/-- The condition codes C0, C1, C2, C3 (bits 0 to 3) where a rule calls them undefined (R41, D21). -/
opaque Config.freeCodes : Nat → BitVec 4

/-- An 80-bit result the spec leaves free: an FBLD with an invalid digit (R173), F2XM1 and FYL2XP1 out of range (R307, R309),
a bias-adjusted result that is still out of range (notes/assumptions/20.md). -/
opaque Config.freeResult : Nat → F80

/-- Whether a result that is itself free raises PE (R307: flags within PE). -/
opaque Config.freePE : Nat → Bool

/-- The round-up indicator of a result that is itself free (notes/assumptions/18.md). -/
opaque Config.freeC1 : Nat → Bool

/-- `FPREM_N` less 32 (spec/42_arithmetic.md R300, D25): N lies in [32, 63]. -/
opaque Config.fpremN : F80 → F80 → BitVec 5

/-- `TRANS` (R305, D26): which of the two neighbours of the exact result the function delivers, the one larger in
magnitude when true. It depends on the function, the operand values and CW.RC alone. -/
opaque Config.transAway : TransFn → F80 → F80 → RC → Bool

end Sys2Proof
end

