-- ==== Sys2Proof/Machine/Flags.lean ====
section
/-! DEFINITION. The fields of SW, CW and EFLAGS, and every flag computation (spec/10_state.md R38 to R46, R54). -/

namespace Sys2Proof.Machine

/-! ## Bits of a 16-bit or 32-bit register -/

/-- `w` with bit `k` set to `b` (R11). -/
def setBit {n : Nat} (w : BitVec n) (k : Nat) (b : Bool) : BitVec n :=
  if b then w ||| BitVec.twoPow n k else w &&& ~~~(BitVec.twoPow n k)

/-- `w` with bit `k` written when there is a value to write. -/
def writeBit {n : Nat} (w : BitVec n) (k : Nat) : Option Bool → BitVec n
  | none => w
  | some b => setBit w k b

/-! ## Exceptions (R38, spec/60_exceptions.md R416) -/

/-- A set of exception flags, a subset of IE, DE, ZE, OE, UE, PE and SF. -/
structure Exc where
  ie : Bool := false
  de : Bool := false
  ze : Bool := false
  oe : Bool := false
  ue : Bool := false
  pe : Bool := false
  sf : Bool := false
  deriving DecidableEq, Repr

/-- The union of two sets of flags. -/
def Exc.union (a b : Exc) : Exc where
  ie := a.ie || b.ie
  de := a.de || b.de
  ze := a.ze || b.ze
  oe := a.oe || b.oe
  ue := a.ue || b.ue
  pe := a.pe || b.pe
  sf := a.sf || b.sf

/-- Nothing raised. -/
def Exc.clear : Exc := {}

/-- Invalid operation. -/
def Exc.invalid : Exc := { ie := true }

/-- A stack fault raises IE and SF (spec/40_numerics.md R176). -/
def Exc.stackFault : Exc := { ie := true, sf := true }

/-- DE, if an operand is denormal. -/
def Exc.denormalIf (b : Bool) : Exc := { de := b }

/-- The flags at their places in SW[6:0] (R38). -/
def Exc.toSw (e : Exc) : Word16 :=
  BitVec.ofBool e.sf ++ BitVec.ofBool e.pe ++ BitVec.ofBool e.ue ++ BitVec.ofBool e.oe ++ BitVec.ofBool e.ze ++
    BitVec.ofBool e.de ++ BitVec.ofBool e.ie |>.setWidth 16

/-! ## Control word (R43 to R46) -/

/-- CW.IM, DM, ZM, OM, UM and PM: 1 is masked. -/
def maskIM (cw : Word16) : Bool := cw.getLsbD 0
def maskDM (cw : Word16) : Bool := cw.getLsbD 1
def maskZM (cw : Word16) : Bool := cw.getLsbD 2
def maskOM (cw : Word16) : Bool := cw.getLsbD 3
def maskUM (cw : Word16) : Bool := cw.getLsbD 4
def maskPM (cw : Word16) : Bool := cw.getLsbD 5

/-- CW.RC, bits 11:10 (R45). -/
def rcOf (cw : Word16) : RC :=
  match (cw.extractLsb' 10 2).toNat with
  | 0 => .rn
  | 1 => .rd
  | 2 => .ru
  | _ => .rz

/-- The precision the reserved PC encoding selects (R44, D23). -/
def pc01Precision : Pc01 → Nat
  | .p24 => 24
  | .p53 => 53
  | .p64 => 64

/-- The precision CW.PC, bits 9:8, selects (R44). -/
def precisionOf (c : Params) (cw : Word16) : Nat :=
  match (cw.extractLsb' 8 2).toNat with
  | 0 => 24
  | 1 => pc01Precision c.pc01
  | 2 => 53
  | _ => 64

/-- What a write of `v` to CW stores (R46). -/
def cwStored (v : Word16) : Word16 := (v &&& 0x1F3F) ||| 0x0040

/-! ## Status word (R38 to R42) -/

/-- SW.ES, the summary bit (R40). -/
def swES (sw : Word16) : Bool := sw.getLsbD 7

/-- TOP = SW[13:11] (R33). -/
def topOf (sw : Word16) : BitVec 3 := sw.extractLsb' 11 3

/-- SW with TOP replaced. -/
def setTop (sw : Word16) (t : BitVec 3) : Word16 := (sw &&& 0xC7FF) ||| (t.setWidth 16 <<< 11)

/-- The condition codes an instruction writes; `none` leaves one unchanged (R41). -/
structure Codes where
  c0 : Option Bool := none
  c1 : Option Bool := none
  c2 : Option Bool := none
  c3 : Option Bool := none
  deriving DecidableEq, Repr

/-- SW with condition codes written: C0 is bit 8, C1 bit 9, C2 bit 10 and C3 bit 14 (R38). -/
def writeCodes (sw : Word16) (c : Codes) : Word16 :=
  writeBit (writeBit (writeBit (writeBit sw 8 c.c0) 9 c.c1) 10 c.c2) 14 c.c3

/-- C0, C2 and C3 of a draw, and the given C1. -/
def drawnCodes (d : BitVec 4) (c1 : Option Bool) : Codes where
  c0 := some (d.getLsbD 0)
  c1 := c1
  c2 := some (d.getLsbD 2)
  c3 := some (d.getLsbD 3)

/-- All four codes of a draw. -/
def drawnAll (d : BitVec 4) : Codes := drawnCodes d (some (d.getLsbD 1))

/-- SW with ES (bit 7) and B (bit 15) set to `b`. -/
def setES (sw : Word16) (b : Bool) : Word16 := setBit (setBit sw 7 b) 15 b

/-- A flag of SW[5:0] is set whose mask bit in CW[5:0] is 0 (R40). -/
def unmaskedPending (sw cw : Word16) : Bool := sw &&& ~~~cw &&& 0x003F != 0

/-- `RECOMPUTE_ES` (spec/46_control.md R370). -/
def recomputeES (sw cw : Word16) : Word16 := setES sw (unmaskedPending sw cw)

/-- The flags of a set that CW leaves unmasked: the set U of COMMIT (spec/40_numerics.md R190). -/
def Exc.unmasked (e : Exc) (cw : Word16) : Exc where
  ie := e.ie && !maskIM cw
  de := e.de && !maskDM cw
  ze := e.ze && !maskZM cw
  oe := e.oe && !maskOM cw
  ue := e.ue && !maskUM cw
  pe := e.pe && !maskPM cw
  sf := false

/-- A pre-computation exception: IE, DE or ZE (R190). -/
def Exc.pre (u : Exc) : Bool := u.ie || u.de || u.ze

/-- The flags that the instruction reaches: an unmasked DE ends it before overflow, underflow and precision (R175,
notes/assumptions/37.md). -/
def Exc.reached (e : Exc) (cw : Word16) : Exc :=
  if e.de && !maskDM cw then { e with oe := false, ue := false, pe := false } else e

/-- Any of the six numeric exceptions. -/
def Exc.any (u : Exc) : Bool := u.ie || u.de || u.ze || u.oe || u.ue || u.pe

/-! ## Compare results (spec/44_compare.md R320, R330) -/

/-- The relation of ST(0) to the source. -/
inductive Rel where
  | gt
  | lt
  | eq
  | unordered
  deriving DecidableEq, Repr

/-- C3, C2 and C0 of a relation (R320). -/
def relCodes : Rel → Codes
  | .gt => { c3 := some false, c2 := some false, c0 := some false }
  | .lt => { c3 := some false, c2 := some false, c0 := some true }
  | .eq => { c3 := some true, c2 := some false, c0 := some false }
  | .unordered => { c3 := some true, c2 := some true, c0 := some true }

/-- EFLAGS with ZF (6), PF (2) and CF (0) of a relation, and OF (11), SF (7) and AF (4) cleared (R330). -/
def relEflags (f : Word32) (r : Rel) : Word32 :=
  let zf := r == .eq || r == .unordered
  let pf := r == .unordered
  let cf := r == .lt || r == .unordered
  setBit (setBit (setBit (setBit (setBit (setBit f 6 zf) 2 pf) 0 cf) 11 false) 7 false) 4 false

/-- EFLAGS.CF, PF and ZF, which FCMOVcc reads (R54). -/
def eflagsCF (f : Word32) : Bool := f.getLsbD 0
def eflagsPF (f : Word32) : Bool := f.getLsbD 2
def eflagsZF (f : Word32) : Bool := f.getLsbD 6

end Sys2Proof.Machine
end

