-- ==== Sys2Proof/Machine/State.lean ====
section
/-! DEFINITION. The state of the core and of the CPU interfaces it uses (spec/10_state.md), as plain data, the reasons a
step can stop, and the state after reset (R71). -/

namespace Sys2Proof.Machine

/-- The tag of a physical data register (R34). -/
inductive Tag where
  /-- 00: a finite nonzero normal value. -/
  | valid
  /-- 01: plus or minus zero. -/
  | zero
  /-- 10: NaN, infinity, denormal, pseudo-denormal or unsupported. -/
  | special
  /-- 11: the register holds no operand. -/
  | empty
  deriving DecidableEq, Repr

/-- The CPU fault vectors this core can cause (spec/60_exceptions.md R410). -/
inductive CpuVector where
  /-- 6, #UD: a LOCK prefix, or an undefined encoding under UNDEF_ESC = UD. -/
  | invalidOpcode
  /-- 7, #NM: device not available. -/
  | deviceNotAvailable
  /-- 12, #SS: a memory fault of the CPU's primitives. -/
  | stackSegment
  /-- 13, #GP: a memory fault of the CPU's primitives. -/
  | generalProtection
  /-- 14, #PF: a memory fault of the CPU's primitives. -/
  | pageFault
  /-- 16, #MF: the floating-point error the CPU delivers for NE_REQ. -/
  | floatingPoint
  deriving DecidableEq, Repr

/-- The vector's number (R410). -/
def CpuVector.number : CpuVector → Nat
  | .invalidOpcode => 6
  | .deviceNotAvailable => 7
  | .stackSegment => 12
  | .generalProtection => 13
  | .pageFault => 14
  | .floatingPoint => 16

/-- A fault handed to the CPU's fault-delivery mechanism: the vector, and the saved CS and EIP (R57, R431). -/
structure CpuFault where
  vector : CpuVector
  savedCs : Word16
  savedEip : Word32
  deriving DecidableEq, Repr

/-- Why the machine stops with a fault. -/
inductive Fault where
  /-- Raised by `step` in a state that holds a CPU fault handed over and not yet delivered. The delivery (vector table,
  frame, handler) is the CPU's and outside the spec (R7, R431). Safe: the machine stops where the hardware goes on. -/
  | handedToCpu (vector : CpuVector)
  deriving DecidableEq, Repr

/-- Why a state has no step. -/
inductive Refusal where
  /-- Raised by an arm of `exec` for an instruction that has no meaning. Safe. -/
  | notModelled (mnemonic : String)
  /-- Raised by `step` for an undefined encoding with no LOCK prefix under UNDEF_ESC = REFUSE, the spec's value: the refusal
  mark of R126 (D10). Safe. -/
  | undefinedEncoding (esc modrm : Byte)
  /-- Raised by every escape instruction when SOFTFLOAT is false: native passthrough is out of scope (R7, D5). Safe. -/
  | nativePassthrough
  /-- Raised by `step` for an instruction of the CPU, which is out of scope (R7). Safe. -/
  | cpuInstruction (byte : Byte)
  /-- Raised by `step` when prefixes and instruction do not fit in the 15 bytes the CPU fetches. Safe. -/
  | tooLong
  deriving DecidableEq, Repr

/-- The completion code of the last instruction (R58). -/
inductive Completion where
  | normal
  | abnormal
  deriving DecidableEq, Repr

/-- NORMAL is 0 and ABNORMAL is 1 (R58, D4). -/
def Completion.code : Completion → Nat
  | .normal => 0
  | .abnormal => 1

/-- The eight general registers of the CPU (R53, spec/30_encoding.md R120). -/
structure Gpr where
  eax : Word32
  ecx : Word32
  edx : Word32
  ebx : Word32
  esp : Word32
  ebp : Word32
  esi : Word32
  edi : Word32
  deriving DecidableEq, Repr

/-- A segment register: the selector, which FCS and FDS record, and the base the CPU adds (notes/assumptions/5.md). -/
structure SegReg where
  selector : Word16
  base : Word32
  deriving DecidableEq, Repr

/-- The segment registers. -/
structure SegFile where
  es : SegReg
  cs : SegReg
  ss : SegReg
  ds : SegReg
  fs : SegReg
  gs : SegReg
  deriving DecidableEq, Repr

/-- The memory faults of the CPU's primitives (spec/20_memory.md R85). -/
inductive MemFault where
  | generalProtection
  | stackSegment
  | pageFault
  deriving DecidableEq, Repr

/-- Linear addresses at which the CPU's segmentation or paging faults an access (R85, notes/assumptions/6.md). -/
structure FaultRegion where
  first : Nat
  size : Nat
  onRead : Bool
  onWrite : Bool
  fault : MemFault
  deriving DecidableEq, Repr

/-- The inputs of the current instruction that its prefixes and the code segment give (R55, R122). -/
structure Inputs where
  /-- A LOCK prefix is present. -/
  lock : Bool
  /-- The segment-override prefix, if any. -/
  segOverride : Option Seg
  opSize : OpSize
  deriving DecidableEq, Repr

/-- The machine's state. -/
structure State where
  /-- R[0] to R[7], by physical number (R32). -/
  regs : Vector F80 8
  /-- The tag word TW, one tag for each physical register (R34). -/
  tags : Vector Tag 8
  /-- The status word SW (R38). -/
  sw : Word16
  /-- The control word CW (R43). -/
  cw : Word16
  /-- The last-instruction pointers (R47). -/
  fip : Word32
  fcs : Word16
  fop : BitVec 11
  fdp : Word32
  fds : Word16
  /-- `x87_op`, held in 16 bits (R48). -/
  x87op : Word16
  /-- CR0 of the CPU (R49). -/
  cr0 : Word32
  /-- The CPU's deferred-fault request NE_REQ (R50). -/
  neReq : Bool
  /-- How often `picint(13)` has been called: the IRQ 13 request (R51, notes/assumptions/29.md). -/
  irq13 : Nat
  /-- The CPU's cycle accounting (R52). -/
  cycles : Nat
  /-- The CPU's general registers (R53). -/
  gpr : Gpr
  /-- EFLAGS of the CPU (R54). -/
  eflags : Word32
  /-- EIP of the CPU: the offset of the next instruction's first byte (R57). -/
  eip : Word32
  /-- The CPU's segment registers (R55). -/
  segs : SegFile
  /-- The code segment's default size is 32 bits (R9, R57). -/
  code32 : Bool
  /-- `CPU_MODE` (R55). -/
  mode : CpuMode
  /-- Memory by linear address: addresses strictly rising, no entry equal to what an unlisted address reads as. -/
  mem : List Host.Cell
  /-- Where the CPU's memory primitives fault (R85). -/
  faultMap : List FaultRegion
  /-- The fault handed to the CPU and not yet delivered (R431). -/
  cpuFault : Option CpuFault
  /-- The completion code of the last instruction (R58). -/
  completion : Completion
  /-- The current instruction's inputs (R55). -/
  inp : Inputs
  /-- The parameters of R9. -/
  params : Params
  /-- The model's own counter of draws (R13, notes/assumptions/12.md). -/
  draws : Nat
  deriving DecidableEq, Repr

/-- The CPU's registers after reset: CR0 as R461 gives it, the rest the family's (PRESUMED, notes/assumptions/2.md). -/
def Gpr.reset : Gpr where
  eax := 0
  ecx := 0
  edx := 0x600
  ebx := 0
  esp := 0
  ebp := 0
  esi := 0
  edi := 0

/-- The segment registers after reset (PRESUMED, notes/assumptions/2.md). -/
def SegFile.reset : SegFile where
  es := ⟨0, 0⟩
  cs := ⟨0xF000, 0xFFFF0000⟩
  ss := ⟨0, 0⟩
  ds := ⟨0, 0⟩
  fs := ⟨0, 0⟩
  gs := ⟨0, 0⟩

/-- The state after hardware reset, for either column of R71's table. Where the table says `draw`, the argument stands: the
data registers under FNINIT_LIKE, and `x87_op`. -/
def State.resetOf (rs : ResetState) (drawnRegs : Vector F80 8) (drawnOp : BitVec 11) : State where
  regs := match rs with
    | .fninitLike => drawnRegs
    | .intelReset => Vector.replicate 8 0
  tags := match rs with
    | .fninitLike => Vector.replicate 8 .empty
    | .intelReset => Vector.replicate 8 .zero
  sw := 0x0000
  cw := match rs with
    | .fninitLike => 0x037F
    | .intelReset => 0x0040
  fip := 0
  fcs := 0
  fop := 0
  fdp := 0
  fds := 0
  x87op := 0#5 ++ drawnOp
  cr0 := 0x60000010
  neReq := false
  irq13 := 0
  cycles := 0
  gpr := Gpr.reset
  eflags := 0x00000002
  eip := 0x0000FFF0
  segs := SegFile.reset
  code32 := false
  mode := .real
  mem := []
  faultMap := []
  cpuFault := none
  completion := .normal
  inp := ⟨false, none, .o16⟩
  params := Params.taken
  draws := 0

/-- The state right after reset: the INTEL_RESET column, `x87_op` 0 (DESIGN CHOICE, notes/assumptions/1.md and 3.md). -/
def State.reset : State := State.resetOf .intelReset (Vector.replicate 8 0) 0

end Sys2Proof.Machine
end

