-- ==== Sys2Proof/Machine/Format.lean ====
section
/-! DEFINITION. The double-extended, double and single formats (spec/40_numerics.md R150 to R153, R159). -/

namespace Sys2Proof.Machine

/-! ## Fields of an 80-bit pattern (spec/10_state.md R32) -/

/-- The sign S, bit 79. -/
def signOf (v : F80) : Bool := v.getLsbD 79

/-- The biased exponent E, bits 78:64. -/
def expOf (v : F80) : Nat := (v.extractLsb' 64 15).toNat

/-- The significand M, bits 63:0. -/
def manOf (v : F80) : BitVec 64 := v.extractLsb' 0 64

/-- The pattern with the given sign, biased exponent and significand. -/
def mkF80 (neg : Bool) (e m : Nat) : F80 := (BitVec.ofBool neg ++ BitVec.ofNat 15 e) ++ BitVec.ofNat 64 m

/-- The same pattern with the sign bit replaced. -/
def withSign (v : F80) (neg : Bool) : F80 := BitVec.ofBool neg ++ v.extractLsb' 0 79

/-- `q(v)`: v with M[62] set, quieted (R165). -/
def quiet (v : F80) : F80 := v ||| BitVec.twoPow 80 62

/-! ## Classes (R151) -/

/-- The classes of an 80-bit pattern. -/
inductive FClass where
  | zero
  | denormal
  | pseudoDenormal
  | normal
  | unnormal
  | infinity
  | qnan
  | snan
  | pseudoInfNan
  deriving DecidableEq, Repr

/-- The class of a pattern (R151). -/
def classOf (v : F80) : FClass :=
  let m := manOf v
  if expOf v = 0 then
    if m = 0 then .zero else if m.getLsbD 63 then .pseudoDenormal else .denormal
  else if expOf v = 0x7FFF then
    if m.getLsbD 63 = false then .pseudoInfNan
    else if m = 0x8000000000000000 then .infinity
    else if m.getLsbD 62 then .qnan else .snan
  else if m.getLsbD 63 then .normal else .unnormal

/-- UNSUPPORTED is UNNORMAL and PSEUDO_INF_NAN (R151). -/
def isUnsupported (v : F80) : Bool := classOf v == .unnormal || classOf v == .pseudoInfNan

/-- NAN is QNAN and SNAN (R151). -/
def isNan (v : F80) : Bool := classOf v == .qnan || classOf v == .snan

def isSnan (v : F80) : Bool := classOf v == .snan

def isInf (v : F80) : Bool := classOf v == .infinity

def isZero (v : F80) : Bool := classOf v == .zero

/-- An operand that raises DE (R168). -/
def isDenormal (v : F80) : Bool := classOf v == .denormal || classOf v == .pseudoDenormal

/-- FINITE is ZERO, DENORMAL, PSEUDO_DENORMAL and NORMAL (R151). -/
def isFinite (v : F80) : Bool := isZero v || isDenormal v || classOf v == .normal

/-- `TAG_OF` (spec/10_state.md R35). -/
def tagOf (v : F80) : Tag :=
  match classOf v with
  | .zero => .zero
  | .normal => .valid
  | _ => .special

/-! ## Values -/

/-- A finite value: `(-1)^neg * m * 2^e`. -/
structure Val where
  neg : Bool
  m : Nat
  e : Int
  deriving DecidableEq, Repr

/-- A real magnitude: `m * 2^e`, or, when `sticky`, some real strictly between `m * 2^e` and `(m + 1) * 2^e`. -/
structure Mag where
  m : Nat
  e : Int
  sticky : Bool := false
  deriving DecidableEq, Repr

/-- `floor(log2 |x|)` of a nonzero magnitude. -/
def floorLog2 (m : Nat) (e : Int) : Int := Nat.log2 m + e

/-- `val(v)` of a FINITE pattern (R151). -/
def valOf (v : F80) : Val where
  neg := signOf v
  m := (manOf v).toNat
  e := (if expOf v = 0 then 1 else (expOf v : Int)) - 16446

/-- The real `|q * 2^g|` packed into the extended format (R159); `q * 2^g` is a member of F(64, -16382). -/
def pack (neg : Bool) (q : Nat) (g : Int) : F80 :=
  if q = 0 then mkF80 neg 0 0
  else if floorLog2 q g < -16382 then mkF80 neg 0 (q <<< (g + 16445).toNat)
  else mkF80 neg (floorLog2 q g + 16383).toNat
    (if Nat.log2 q ≤ 63 then q <<< (63 - Nat.log2 q) else q >>> (Nat.log2 q - 63))

/-- A value packed into its NORMAL, DENORMAL or ZERO pattern. -/
def packVal (v : Val) : F80 := pack v.neg v.m v.e

def zeroF80 (neg : Bool) : F80 := mkF80 neg 0 0

def infF80 (neg : Bool) : F80 := mkF80 neg 0x7FFF 0x8000000000000000

def oneF80 (neg : Bool) : F80 := mkF80 neg 0x3FFF 0x8000000000000000

/-- Real indefinite, `FFFF:C000000000000000` (R153). -/
def realIndefinite : F80 := 0xFFFFC000000000000000

/-! ## Destination formats (R150) -/

/-- A binary format: precision and exponent limits of normal numbers. -/
structure Fmt where
  p : Nat
  emin : Int
  emax : Int
  deriving DecidableEq, Repr

/-- A register result of precision p keeps the extended exponent range (R44, R157). -/
def extFmt (p : Nat) : Fmt := ⟨p, -16382, 16383⟩

/-- The memory floating-point formats m32fp and m64fp (spec/20_memory.md R83). -/
inductive MemFp where
  | m32
  | m64
  deriving DecidableEq, Repr

/-- The width of the fraction, f (R152). -/
def MemFp.frac : MemFp → Nat
  | .m32 => 23
  | .m64 => 52

/-- The all-ones exponent (R152). -/
def MemFp.expMax : MemFp → Nat
  | .m32 => 255
  | .m64 => 2047

/-- The bias (R150). -/
def MemFp.bias : MemFp → Int
  | .m32 => 127
  | .m64 => 1023

/-- The width in bytes (R82). -/
def MemFp.bytes : MemFp → Nat
  | .m32 => 4
  | .m64 => 8

def MemFp.fmt : MemFp → Fmt
  | .m32 => ⟨24, -126, 127⟩
  | .m64 => ⟨53, -1022, 1023⟩

/-- The bits of a memory floating-point number: sign, exponent field, fraction field (R83). -/
def MemFp.pack (f : MemFp) (neg : Bool) (e frac : Nat) : Nat :=
  (if neg then (f.expMax + 1) <<< f.frac else 0) + (e <<< f.frac) + frac

/-- The indefinite of the format: 0xFFC00000 or 0xFFF8000000000000 (R153). -/
def MemFp.indefinite (f : MemFp) : Nat := f.pack true f.expMax (1 <<< (f.frac - 1))

/-- The integer indefinite of N bits, as an unsigned number (R153). -/
def intIndefinite (N : Nat) : Nat := 1 <<< (N - 1)

/-- The BCD indefinite: bytes 9 to 0 are FF FF C0 and seven zero bytes (R153). -/
def bcdIndefinite : Nat := 0xFFFFC000000000000000

end Sys2Proof.Machine
end

