-- ==== Sys2Proof/Machine/Rounding.lean ====
section
/-! DEFINITION. Rounding of an exact real, and the overflow, underflow and precision responses (spec/40_numerics.md R157
to R163). Everything is exact integer arithmetic; there is one rounding (D41). -/

namespace Sys2Proof.Machine

/-- A rounded magnitude `q * 2^g`, whether it differs from the exact one, and whether it is larger. -/
structure Rounded where
  q : Nat
  g : Int
  inexact : Bool
  up : Bool
  deriving DecidableEq, Repr

/-- Whether to take the larger neighbour, given how the discarded part compares with half a unit (R158). -/
def roundsUp (rc : RC) (neg inexact aboveHalf atHalf odd : Bool) : Bool :=
  inexact &&
    match rc with
    | .rn => aboveHalf || (atHalf && odd)
    | .rd => neg
    | .ru => !neg
    | .rz => false

/-- The exact magnitude `x` rounded to a multiple of `2^g`. -/
def roundAt (rc : RC) (neg : Bool) (x : Mag) (g : Int) : Rounded :=
  if g ≤ x.e then
    let up := roundsUp rc neg x.sticky false false false
    let q := x.m <<< (x.e - g).toNat
    ⟨if up then q + 1 else q, g, x.sticky, up⟩
  else
    let sh := (g - x.e).toNat
    if Nat.log2 x.m + 2 < sh then
      -- less than half a unit; the shift is not carried out, since it may be astronomically long
      let inexact := x.m != 0 || x.sticky
      let up := roundsUp rc neg inexact false false false
      ⟨if up then 1 else 0, g, inexact, up⟩
    else
      let q := x.m >>> sh
      let rem := x.m - (q <<< sh)
      let half := 1 <<< (sh - 1)
      let inexact := rem != 0 || x.sticky
      let up := roundsUp rc neg inexact (decide (half < rem) || (rem == half && x.sticky)) (rem == half) (q % 2 == 1)
      ⟨if up then q + 1 else q, g, inexact, up⟩

/-- `round_p,RC(x)`: the member of F(p, emin) that RC chooses (R157, R158). -/
def roundTo (f : Fmt) (rc : RC) (neg : Bool) (x : Mag) : Rounded :=
  roundAt rc neg x (max (floorLog2 x.m x.e - (f.p - 1)) (f.emin - (f.p - 1)))

/-- `round'`: to precision p with an unbounded exponent range below (R161). -/
def roundUnbounded (f : Fmt) (rc : RC) (neg : Bool) (x : Mag) : Rounded :=
  roundAt rc neg x (floorLog2 x.m x.e - (f.p - 1))

/-- Whether the result x is tiny (R161). -/
def isTiny (t : Tininess) (f : Fmt) (rc : RC) (neg : Bool) (x : Mag) : Bool :=
  match t with
  | .afterRounding =>
    let r := roundUnbounded f rc neg x
    decide (floorLog2 r.q r.g < f.emin)
  | .beforeRounding => decide (floorLog2 x.m x.e < f.emin)

/-- What rounding delivers to a destination. -/
inductive Delivered where
  /-- The finite magnitude `q * 2^g`. -/
  | finite (q : Nat) (g : Int)
  | infinity
  /-- An unmasked overflow or underflow of a memory destination writes nothing (R160, R161). -/
  | nothing
  /-- A bias-adjusted result that is still outside the range of normal numbers: the spec states no value
  (notes/assumptions/20.md). -/
  | unstated
  deriving DecidableEq, Repr

/-- A delivered magnitude with the flags it raises and the round-up indicator (R163). -/
structure Delivery where
  out : Delivered
  exc : Exc
  c1 : Bool
  deriving DecidableEq, Repr

/-- Whether the masked overflow response is infinity (R160). -/
def overflowsToInf (rc : RC) (neg : Bool) : Bool :=
  match rc with
  | .rn => true
  | .rz => false
  | .rd => neg
  | .ru => !neg

/-- What a rounding depends on besides the real: CW, TININESS, the format, and whether the destination is memory. -/
structure RoundCtx where
  cw : Word16
  tininess : Tininess
  fmt : Fmt
  toMemory : Bool
  deriving DecidableEq, Repr

/-- The masked and unmasked overflow responses (R160). `rc` is the direction of the rounding. -/
def deliverOverflow (c : RoundCtx) (rc : RC) (neg : Bool) (x : Mag) : Delivery :=
  if maskOM c.cw then
    let inf := overflowsToInf (rcOf c.cw) neg
    ⟨if inf then .infinity else .finite (2 ^ c.fmt.p - 1) (c.fmt.emax - (c.fmt.p - 1)), { oe := true, pe := true }, inf⟩
  else if c.toMemory then ⟨.nothing, { oe := true }, false⟩
  else
    let r := roundTo c.fmt rc neg { x with e := x.e - 24576 }
    ⟨if c.fmt.emax < floorLog2 r.q r.g then .unstated else .finite r.q r.g, { oe := true, pe := r.inexact }, r.up⟩

/-- The unmasked underflow response to a tiny result (R161): a normal number, unless x is too small even for that
(notes/assumptions/20.md). -/
def deliverUnmaskedTiny (c : RoundCtx) (rc : RC) (neg : Bool) (x : Mag) : Delivery :=
  if c.toMemory then ⟨.nothing, { ue := true }, false⟩
  else
    let r := roundTo c.fmt rc neg { x with e := x.e + 24576 }
    ⟨if floorLog2 r.q r.g < c.fmt.emin then .unstated else .finite r.q r.g, { ue := true, pe := r.inexact }, r.up⟩

/-- The exact nonzero real `(-1)^neg * x` delivered under R158 to R163, rounded in the direction `rc`, which also decides
overflow and tininess (for a result of TRANS a choice of the model, notes/assumptions/40.md). -/
def deliverWith (c : RoundCtx) (rc : RC) (neg : Bool) (x : Mag) : Delivery :=
  let r := roundTo c.fmt rc neg x
  if c.fmt.emax < floorLog2 r.q r.g then deliverOverflow c rc neg x
  else
    let tiny := isTiny c.tininess c.fmt rc neg x
    if tiny && !maskUM c.cw then deliverUnmaskedTiny c rc neg x
    else ⟨.finite r.q r.g, { ue := tiny && r.inexact, pe := r.inexact }, r.up⟩

/-- The exact nonzero real delivered with the rounding of CW.RC. -/
def deliver (c : RoundCtx) (neg : Bool) (x : Mag) : Delivery := deliverWith c (rcOf c.cw) neg x

/-- An 80-bit result with the flags it raises and the value of C1. -/
structure Result where
  v : F80
  exc : Exc
  c1 : Bool
  deriving DecidableEq, Repr

/-- A result with no rounding and no flag. -/
def Result.exact (v : F80) : Result := ⟨v, Exc.clear, false⟩

/-- The masked response to an invalid operation (R153). -/
def Result.invalid : Result := ⟨realIndefinite, Exc.invalid, false⟩

/-- What a numeric instruction's result depends on besides its operands: CW, TININESS, the precision of a register result,
and the draw that stands where the spec states no value. -/
structure NumCtx where
  cw : Word16
  tininess : Tininess
  p : Nat
  free : F80
  deriving DecidableEq, Repr

/-- The rounding of a register result. -/
def NumCtx.round (c : NumCtx) : RoundCtx := ⟨c.cw, c.tininess, extFmt c.p, false⟩

/-- The 80-bit pattern of a delivery to a register (R159). -/
def Delivery.toResult (d : Delivery) (neg : Bool) (free : F80) : Result :=
  match d.out with
  | .finite q g => ⟨pack neg q g, d.exc, d.c1⟩
  | .infinity => ⟨infF80 neg, d.exc, d.c1⟩
  | .nothing => ⟨free, d.exc, d.c1⟩
  | .unstated => ⟨free, d.exc, d.c1⟩

/-- The exact nonzero real rounded to a register result. -/
def roundReg (c : NumCtx) (neg : Bool) (x : Mag) : Result := (deliver c.round neg x).toResult neg c.free

end Sys2Proof.Machine
end

