-- ==== Sys2Proof/Machine/Kernels.lean ====
section
/-! DEFINITION. NaN results, the arithmetic kernels and the exact comparison (spec/40_numerics.md R164 to R168, R175,
R180 to R185, R300). -/

namespace Sys2Proof.Machine

/-! ## NaNs (R165, R166) -/

/-- Which of two quieted NaNs has the larger significand; on equal significands the one with sign 0 (D24). -/
def largerNan (a b : F80) : F80 :=
  if (manOf b).toNat < (manOf a).toNat then a
  else if (manOf a).toNat < (manOf b).toNat then b
  else if signOf a then b else a

/-- The result of two operands at least one of which is a NaN (R165). -/
def nanOf2 (a b : F80) : F80 :=
  if isNan a && !isNan b then quiet a
  else if isNan b && !isNan a then quiet b
  else if isSnan a && !isSnan b then b
  else if isSnan b && !isSnan a then a
  else largerNan (quiet a) (quiet b)

/-- The two-operand NaN rule: an SNaN raises IE (R165). -/
def nanResult2 (a b : F80) : Result := ⟨nanOf2 a b, { ie := isSnan a || isSnan b }, false⟩

/-- The one-operand NaN rule (R166). -/
def nanResult1 (a : F80) : Result := ⟨quiet a, { ie := isSnan a }, false⟩

/-! ## Exact values -/

/-- The signed integer `±m * 2^(e - g)`, for `g ≤ e`. -/
def scaledInt (v : Val) (g : Int) : Int :=
  let n : Nat := v.m <<< (v.e - g).toNat
  if v.neg then -(n : Int) else n

/-- The sign of an exactly zero sum (R164). -/
def zeroSumSign (rc : RC) (a b : Val) : Bool :=
  if a.m = 0 ∧ b.m = 0 ∧ a.neg = b.neg then a.neg else rc == .rd

/-- The sum of two finite values, rounded (R180). -/
def addVal (c : NumCtx) (a b : Val) : Result :=
  let g := min a.e b.e
  let sum := scaledInt a g + scaledInt b g
  if sum = 0 then Result.exact (zeroF80 (zeroSumSign (rcOf c.cw) a b))
  else roundReg c (decide (sum < 0)) ⟨sum.natAbs, g, false⟩

/-- The product of two finite values, rounded (R181). -/
def mulVal (c : NumCtx) (a b : Val) : Result :=
  let neg := a.neg != b.neg
  if a.m = 0 ∨ b.m = 0 then Result.exact (zeroF80 neg) else roundReg c neg ⟨a.m * b.m, a.e + b.e, false⟩

/-- The quotient of two nonzero magnitudes, to at least 68 bits, the rest in the sticky bit. -/
def quotient (am : Nat) (ae : Int) (bm : Nat) (be : Int) : Mag :=
  let n := am <<< 132
  ⟨n / bm, ae - be - 132, n % bm != 0⟩

/-- The quotient of a finite value and a finite nonzero value, rounded (R182). -/
def divVal (c : NumCtx) (a b : Val) : Result :=
  let neg := a.neg != b.neg
  if a.m = 0 then Result.exact (zeroF80 neg) else roundReg c neg (quotient a.m a.e b.m b.e)

/-- The largest r with `r * r ≤ n`, found bit by bit from bit `k - 1` down, starting from r. -/
def isqrtFrom (n : Nat) : Nat → Nat → Nat
  | 0, r => r
  | k + 1, r =>
    let t := r + 2 ^ k
    isqrtFrom n k (if t * t ≤ n then t else r)

/-- The integer square root of a number below 2^200. -/
def isqrt (n : Nat) : Nat := isqrtFrom n 100 0

/-- The square root of a nonzero magnitude, to at least 66 bits, the rest in the sticky bit. -/
def rootMag (m : Nat) (e : Int) : Mag :=
  let k : Nat := if e % 2 = 0 then 132 else 133
  let n := m <<< k
  let r := isqrt n
  ⟨r, (e - k) / 2, r * r != n⟩

/-! ## The binary operations (R180 to R182, R250) -/

/-- An operand: its pattern, and whether it raises DE. A memory operand is widened with its class kept (R185). -/
structure Operand where
  v : F80
  denormal : Bool
  deriving DecidableEq, Repr

/-- A register operand. -/
def Operand.reg (v : F80) : Operand := ⟨v, isDenormal v⟩

/-- The operations of R250. -/
inductive ArithOp where
  | add
  | sub
  | mul
  | div
  deriving DecidableEq, Repr

/-- Negation of a FINITE or INFINITY operand (R164). -/
def negF80 (v : F80) : F80 := withSign v (!signOf v)

/-- The class 3 conditions: an invalid operation or a zero divide, with its masked result (R175, R180 to R182). -/
def class3 (k : ArithOp) (a b : F80) : Option Result :=
  match k with
  | .add => if isInf a && isInf b && signOf a != signOf b then some Result.invalid else none
  | .sub => if isInf a && isInf b && signOf a == signOf b then some Result.invalid else none
  | .mul => if (isInf a && isZero b) || (isZero a && isInf b) then some Result.invalid else none
  | .div =>
    if (isZero a && isZero b) || (isInf a && isInf b) then some Result.invalid
    else if isZero b && !isInf a then some ⟨infF80 (signOf a != signOf b), { ze := true }, false⟩
    else none

/-- The sum of FINITE or INFINITY operands, not opposite infinities (R180). -/
def addF (c : NumCtx) (a b : F80) : Result :=
  if isInf a then Result.exact a else if isInf b then Result.exact b else addVal c (valOf a) (valOf b)

/-- The product of FINITE or INFINITY operands, not infinity and zero (R181). -/
def mulF (c : NumCtx) (a b : F80) : Result :=
  if isInf a || isInf b then Result.exact (infF80 (signOf a != signOf b)) else mulVal c (valOf a) (valOf b)

/-- The quotient of FINITE or INFINITY operands that is no class 3 condition (R182). -/
def divF (c : NumCtx) (a b : F80) : Result :=
  if isInf a then Result.exact (infF80 (signOf a != signOf b))
  else if isInf b then Result.exact (zeroF80 (signOf a != signOf b))
  else divVal c (valOf a) (valOf b)

/-- The operation K on operands of classes FINITE and INFINITY that raise no class 3 condition. -/
def kernel (k : ArithOp) (c : NumCtx) (a b : F80) : Result :=
  match k with
  | .add => addF c a b
  | .sub => addF c a (negF80 b)
  | .mul => mulF c a b
  | .div => divF c a b

/-- A result with DE added when an operand is denormal (R168). -/
def Result.withDE (r : Result) (denormal : Bool) : Result := { r with exc := (Exc.denormalIf denormal).union r.exc }

/-- The result of a binary operation on two operands, in the order of classes 1 to 6 (R175, R250). -/
def arithResult (k : ArithOp) (c : NumCtx) (a b : Operand) : Result :=
  if isUnsupported a.v || isUnsupported b.v then Result.invalid
  else if isNan a.v || isNan b.v then nanResult2 a.v b.v
  else
    match class3 k a.v b.v with
    | some r => r
    | none => (kernel k c a.v b.v).withDE (a.denormal || b.denormal)

/-- `SQRT` with its special operands (R183, R296). -/
def sqrtResult (c : NumCtx) (a : F80) : Result :=
  if isUnsupported a then Result.invalid
  else if isNan a then nanResult1 a
  else if isZero a then Result.exact a
  else if signOf a then Result.invalid
  else if isInf a then Result.exact a
  else
    let v := valOf a
    (roundReg c false (rootMag v.m v.e)).withDE (isDenormal a)

/-! ## Exact comparison (spec/44_compare.md R320) -/

/-- The relation of two finite values. -/
def compareVal (a b : Val) : Rel :=
  let g := min a.e b.e
  let x := scaledInt a g
  let y := scaledInt b g
  if y < x then .gt else if x < y then .lt else .eq

/-- The relation of two operands that are FINITE or INFINITY. -/
def compareF (a b : F80) : Rel :=
  if isInf a then
    if isInf b && signOf a == signOf b then .eq else if signOf a then .lt else .gt
  else if isInf b then if signOf b then .gt else .lt
  else compareVal (valOf a) (valOf b)

/-- The relation and the exceptions of a compare (R320). -/
def compareResult (ordered : Bool) (a b : Operand) : Rel × Exc :=
  if isUnsupported a.v || isUnsupported b.v then (.unordered, Exc.invalid)
  else if isSnan a.v || isSnan b.v then (.unordered, Exc.invalid)
  else if isNan a.v || isNan b.v then (.unordered, { ie := ordered })
  else (compareF a.v b.v, Exc.denormalIf (a.denormal || b.denormal))

/-! ## Partial remainder (spec/42_arithmetic.md R300, R301) -/

/-- A quotient rounded to nearest, ties to even. -/
def nearestEven (n d : Nat) : Nat :=
  let q := n / d
  let r := n % d
  if d < 2 * r ∨ (2 * r = d ∧ q % 2 = 1) then q + 1 else q

/-- The outcome of a reduction: the remainder's sign and exact magnitude, and, when the reduction is complete, |q|. -/
structure Reduction where
  neg : Bool
  mag : Mag
  quot : Option Nat
  deriving DecidableEq, Repr

/-- The reduction of a finite nonzero a by a finite nonzero b. `N` is FPREM_N (R300); `nearest` is FPREM1's quotient (R301). -/
def reduce (nearest : Bool) (N : Nat) (a b : Val) : Reduction :=
  let D := floorLog2 a.m a.e - floorLog2 b.m b.e
  let g := min a.e b.e
  let A := a.m <<< (a.e - g).toNat
  let B := b.m <<< (b.e - g).toNat
  if D < 64 then
    let q := if nearest then nearestEven A B else A / B
    let r : Int := A - q * B
    ⟨if r < 0 then !a.neg else a.neg, ⟨r.natAbs, g, false⟩, some q⟩
  else ⟨a.neg, ⟨A % (B <<< (D - N).toNat), g, false⟩, none⟩

end Sys2Proof.Machine
end

