-- ==== Sys2Proof/Machine/Convert.lean ====
section
/-! DEFINITION. Conversions between memory formats and the extended format (spec/40_numerics.md R155, R156, R170 to R174,
spec/20_memory.md R82 to R84). A memory image is the unsigned little-endian number of its bytes (R12). -/

namespace Sys2Proof.Machine

/-! ## Loads -/

/-- An m32fp or m64fp image widened exactly, its class kept: an SNaN stays an SNaN, and a denormal is marked (R155, R185). -/
def widenFp (f : MemFp) (m : Nat) : Operand :=
  let neg := m.testBit (8 * f.bytes - 1)
  let e := (m >>> f.frac) % (f.expMax + 1)
  let frac := m % 2 ^ f.frac
  if e = 0 then
    if frac = 0 then ⟨zeroF80 neg, false⟩ else ⟨pack neg frac (f.fmt.emin - f.frac), true⟩
  else if e = f.expMax then
    if frac = 0 then ⟨infF80 neg, false⟩ else ⟨mkF80 neg 0x7FFF (2 ^ 63 + frac <<< (63 - f.frac)), false⟩
  else ⟨pack neg (2 ^ f.frac + frac) ((e : Int) - f.bias - f.frac), false⟩

/-- `LOAD_FP` (R155): an SNaN raises IE and is quieted, a denormal raises DE. -/
def loadFp (f : MemFp) (m : Nat) : F80 × Exc :=
  let x := widenFp f m
  if isSnan x.v then (quiet x.v, Exc.invalid) else (x.v, Exc.denormalIf x.denormal)

/-- `LOAD_INT` of an N-bit two's-complement image (R156). -/
def loadInt (N : Nat) (n : Nat) : F80 :=
  if n < 2 ^ (N - 1) then pack false n 0 else pack true (2 ^ N - n) 0

/-- The digits d0, d1, … of an m80bcd image, `k` of them (R84). -/
def bcdDigits : Nat → Nat → List Nat
  | 0, _ => []
  | k + 1, n => n % 16 :: bcdDigits k (n / 16)

/-- The number of a list of decimal digits, the least significant first. -/
def digitsValue : List Nat → Nat
  | [] => 0
  | d :: ds => d + 10 * digitsValue ds

/-- `LOAD_BCD` (R173). `none`: some digit nibble is above 9, and the result is a draw. -/
def loadBcd (b : Nat) : Option F80 :=
  let ds := bcdDigits 18 b
  if ds.all (fun d => decide (d ≤ 9)) then some (pack (b.testBit 79) (digitsValue ds) 0) else none

/-! ## Stores -/

/-- The result of a conversion to memory: the image, or `none` where nothing is to be written, with flags and C1. -/
structure StoreResult where
  bits : Option Nat
  exc : Exc
  c1 : Bool
  deriving DecidableEq, Repr

/-- A finite magnitude packed into m32fp or m64fp (R159). -/
def packFp (f : MemFp) (neg : Bool) (q : Nat) (g : Int) : Nat :=
  if q = 0 then f.pack neg 0 0
  else if floorLog2 q g < f.fmt.emin then f.pack neg 0 (q <<< (g - (f.fmt.emin - f.frac)).toNat)
  else
    let sig := if Nat.log2 q ≤ f.frac then q <<< (f.frac - Nat.log2 q) else q >>> (Nat.log2 q - f.frac)
    f.pack neg (floorLog2 q g + f.bias).toNat (sig - 2 ^ f.frac)

/-- The NaN of the format: the sign, and the top fraction bits of the quieted significand (R170). -/
def narrowNan (f : MemFp) (v : F80) : Nat :=
  f.pack (signOf v) f.expMax (((manOf (quiet v)).toNat % 2 ^ 63) >>> (63 - f.frac))

/-- The context of a store to m32fp or m64fp: CW.PC is ignored (R170). -/
def storeCtx (cw : Word16) (t : Tininess) (f : MemFp) : RoundCtx := ⟨cw, t, f.fmt, true⟩

/-- What a delivery writes to an m32fp or m64fp destination. -/
def deliveredBits (f : MemFp) (neg : Bool) : Delivered → Option Nat
  | .finite q g => some (packFp f neg q g)
  | .infinity => some (f.pack neg f.expMax 0)
  | .nothing => none
  | .unstated => none

/-- `STORE_FP` (R170). No DE is raised. -/
def storeFp (cw : Word16) (t : Tininess) (f : MemFp) (v : F80) : StoreResult :=
  if isUnsupported v then ⟨some f.indefinite, Exc.invalid, false⟩
  else if isNan v then ⟨some (narrowNan f v), { ie := isSnan v }, false⟩
  else if isInf v then ⟨some (f.pack (signOf v) f.expMax 0), Exc.clear, false⟩
  else if isZero v then ⟨some (f.pack (signOf v) 0 0), Exc.clear, false⟩
  else
    let x := valOf v
    let d := deliver (storeCtx cw t f) x.neg ⟨x.m, x.e, false⟩
    ⟨deliveredBits f x.neg d.out, d.exc, d.c1⟩

/-- `RNDINT_RC` (R174): the magnitude of the integer, with the inexact and round-up indicators. -/
def rndint (rc : RC) (x : Val) : Rounded := roundAt rc x.neg ⟨x.m, x.e, false⟩ 0

/-- An N-bit two's-complement image of `±q`. -/
def twosComplement (N : Nat) (neg : Bool) (q : Nat) : Nat := if neg then (2 ^ N - q) % 2 ^ N else q

/-- `STORE_INT` (R171). Out of range C1 is 0, which R171 and R215 leave open (DESIGN CHOICE, notes/assumptions/42.md). -/
def storeInt (cw : Word16) (N : Nat) (v : F80) : StoreResult :=
  if isFinite v then
    let x := valOf v
    let r := rndint (rcOf cw) x
    if (x.neg && decide (2 ^ (N - 1) < r.q)) || (!x.neg && decide (2 ^ (N - 1) ≤ r.q)) then
      ⟨some (intIndefinite N), Exc.invalid, false⟩
    else ⟨some (twosComplement N x.neg r.q), { pe := r.inexact }, r.up⟩
  else ⟨some (intIndefinite N), Exc.invalid, false⟩

/-- The packed digits of a number, `k` of them (R84). -/
def packBcd : Nat → Nat → Nat
  | 0, _ => 0
  | k + 1, n => n % 10 + 16 * packBcd k (n / 10)

/-- `STORE_BCD` (R172): byte 9 holds the sign in bit 7 and zeros below it. Out of range C1 is 0 (notes/assumptions/42.md). -/
def storeBcd (cw : Word16) (v : F80) : StoreResult :=
  if isFinite v then
    let x := valOf v
    let r := rndint (rcOf cw) x
    if 10 ^ 18 - 1 < r.q then ⟨some bcdIndefinite, Exc.invalid, false⟩
    else ⟨some ((if x.neg then 2 ^ 79 else 0) + packBcd 18 r.q), { pe := r.inexact }, r.up⟩
  else ⟨some bcdIndefinite, Exc.invalid, false⟩

end Sys2Proof.Machine
end

