-- ==== Sys2Proof/Machine/Ops.lean ====
section
/-! DEFINITION. The named operations over memory, the register stack, the pointers and the CPU's interfaces, and the two
shared procedures of every instruction: FPU_ENTRY (spec/60_exceptions.md R420) and COMMIT (spec/40_numerics.md R190).
Faulting hands a CPU fault over (`State.raiseCpu`, R431); the core has no return instruction (R433). -/

namespace Sys2Proof.Machine

/-- The outcomes of a step. -/
abbrev Outcome := Host.Outcome State Fault Refusal

/-! ## Memory (spec/20_memory.md R80 to R89) -/

/-- What an address that memory does not list reads as (DESIGN CHOICE, notes/assumptions/4.md). -/
def unlistedByte : Byte := 0

/-- The canonical form of memory: addresses strictly rising from `low`, below 2^32, and no entry equal to what an unlisted
address reads as. -/
def Memory.wfFrom (low : Nat) : List Host.Cell → Bool
  | [] => true
  | (a, b) :: rest => decide (low ≤ a) && decide (a < 2 ^ 32) && b != unlistedByte && Memory.wfFrom (a + 1) rest

/-- Memory is in canonical form. -/
def Memory.wf (mem : List Host.Cell) : Bool := Memory.wfFrom 0 mem

/-- The byte at an address. -/
def readByte : List Host.Cell → Nat → Byte
  | [], _ => unlistedByte
  | (a, b) :: rest, k => if k = a then b else if k < a then unlistedByte else readByte rest k

/-- Memory with the byte at an address replaced, in canonical form. -/
def writeByte : List Host.Cell → Nat → Byte → List Host.Cell
  | [], k, v => if v = unlistedByte then [] else [(k, v)]
  | (a, b) :: rest, k, v =>
    if k = a then (if v = unlistedByte then rest else (k, v) :: rest)
    else if k < a then (if v = unlistedByte then (a, b) :: rest else (k, v) :: (a, b) :: rest)
    else (a, b) :: writeByte rest k v

/-- The little-endian number in the `n` bytes at linear address `a`; addresses wrap modulo 2^32 (R81, R89). -/
def readLE (mem : List Host.Cell) (a : Word32) : Nat → Nat
  | 0 => 0
  | n + 1 => (readByte mem a.toNat).toNat + 256 * readLE mem (a + 1) n

/-- The low `n` bytes of `v` written at linear address `a`, little-endian (R12, R81). -/
def writeLE (mem : List Host.Cell) (a : Word32) : Nat → Nat → List Host.Cell
  | 0, _ => mem
  | n + 1, v => writeLE (writeByte mem a.toNat (BitVec.ofNat 8 v)) (a + 1) n (v / 256)

/-- The fault of an access to one linear address, if any (R85, notes/assumptions/6.md). -/
def faultAt (map : List FaultRegion) (write : Bool) (a : Nat) : Option MemFault :=
  match map with
  | [] => none
  | r :: rest =>
    if (if write then r.onWrite else r.onRead) && decide (r.first ≤ a) && decide (a < r.first + r.size) then some r.fault
    else faultAt rest write a

/-- The fault of an access to the `n` bytes at `a`: that of the first byte that has one. -/
def accessFault (map : List FaultRegion) (write : Bool) (a : Word32) : Nat → Option MemFault
  | 0 => none
  | n + 1 =>
    match faultAt map write a.toNat with
    | some f => some f
    | none => accessFault map write (a + 1) n

/-- `MemRead` of `n` bytes at a linear address: one access of its full width (R88). -/
def State.memRead (s : State) (a : Word32) (n : Nat) : Except MemFault Nat :=
  match accessFault s.faultMap false a n with
  | some f => .error f
  | none => .ok (readLE s.mem a n)

/-- `MemWrite` of the low `n` bytes of `v`: a fault leaves memory unchanged (R85, R88). -/
def State.memWrite (s : State) (a : Word32) (n : Nat) (v : Nat) : Except MemFault (List Host.Cell) :=
  match accessFault s.faultMap true a n with
  | some f => .error f
  | none => .ok (writeLE s.mem a n v)

/-- A field of a memory image: its offset, its width in bytes, and its value (R86, R87). -/
structure Field where
  off : Nat
  len : Nat
  value : Nat
  deriving DecidableEq, Repr

/-- The fields written one access each, in the given order. A fault ends the sequence: the earlier fields stay written
(R85, R88). -/
def writeFields (map : List FaultRegion) (mem : List Host.Cell) (a : Word32) :
    List Field → List Host.Cell × Option MemFault
  | [] => (mem, none)
  | f :: fs =>
    match accessFault map true (a + BitVec.ofNat 32 f.off) f.len with
    | some e => (mem, some e)
    | none => writeFields map (writeLE mem (a + BitVec.ofNat 32 f.off) f.len f.value) a fs

/-- The values of the fields (offset, width) read one access each, in the given order. -/
def State.readFields (s : State) (a : Word32) : List (Nat × Nat) → Except MemFault (List Nat)
  | [] => .ok []
  | f :: fs =>
    match s.memRead (a + BitVec.ofNat 32 f.1) f.2 with
    | .error e => .error e
    | .ok v =>
      match s.readFields a fs with
      | .error e => .error e
      | .ok vs => .ok (v :: vs)

/-! ## The register stack (spec/10_state.md R33 to R37) -/

/-- TOP (R33). -/
def State.top (s : State) : BitVec 3 := topOf s.sw

/-- The physical number of ST(i) (R33). -/
def State.phys (s : State) (i : BitVec 3) : BitVec 3 := s.top + i

/-- R[k]. -/
def State.reg (s : State) (k : BitVec 3) : F80 := s.regs[k.toNat]

/-- The tag of R[k]. -/
def State.tag (s : State) (k : BitVec 3) : Tag := s.tags[k.toNat]

/-- `EMPTY(i)` (R36). -/
def State.isEmpty (s : State) (i : BitVec 3) : Bool := s.tag (s.phys i) == .empty

/-- `READ_ST(i)` (R36). -/
def State.st (s : State) (i : BitVec 3) : F80 := s.reg (s.phys i)

/-- R[k] replaced, its tag that of the value. -/
def State.setReg (s : State) (k : BitVec 3) (v : F80) : State :=
  { s with regs := s.regs.set k.toNat v, tags := s.tags.set k.toNat (tagOf v) }

/-- R[k] tagged empty, its contents unchanged. -/
def State.freeReg (s : State) (k : BitVec 3) : State := { s with tags := s.tags.set k.toNat .empty }

/-- `WRITE_ST(i, v)` (R36). -/
def State.writeSt (s : State) (i : BitVec 3) (v : F80) : State := s.setReg (s.phys i) v

/-- `FREE(i)` (R36). -/
def State.free (s : State) (i : BitVec 3) : State := s.freeReg (s.phys i)

/-- TOP replaced. -/
def State.withTop (s : State) (t : BitVec 3) : State := { s with sw := setTop s.sw t }

/-- `PUSH(v)` (R36). -/
def State.push (s : State) (v : F80) : State := (s.withTop (s.top - 1)).writeSt 0 v

/-- `POP()` (R36). -/
def State.pop (s : State) : State := (s.free 0).withTop (s.top + 1)

/-- A register write, push or pop of COMMIT's `writes` (R190). -/
inductive StackOp where
  | write (i : BitVec 3) (v : F80)
  | push (v : F80)
  | pop
  deriving DecidableEq, Repr

/-- One register write, push or pop. -/
def State.stackOp (s : State) : StackOp → State
  | .write i v => s.writeSt i v
  | .push v => s.push v
  | .pop => s.pop

/-- Register writes, pushes and pops, in order. -/
def State.stackOps (s : State) : List StackOp → State
  | [] => s
  | op :: ops => (s.stackOp op).stackOps ops

/-! ## The pointers (R60) -/

/-- `UPDATE_POINTERS` of an instruction with no memory operand (R60). -/
def State.pointers (s : State) : State :=
  { s with fip := s.eip, fcs := s.segs.cs.selector, fop := s.x87op.setWidth 11 }

/-! ## The CPU's interfaces -/

/-- `raise CPUFault(vec)`: the fault is handed to the CPU with the saved CS and EIP at the instruction's first byte, and the
instruction ends ABNORMAL (R57, R431, spec/00_scope.md R12). -/
def State.raiseCpu (s : State) (v : CpuVector) : State :=
  { s with cpuFault := some ⟨v, s.segs.cs.selector, s.eip⟩, completion := .abnormal }

/-- The vector of a memory fault (R410). -/
def MemFault.vector : MemFault → CpuVector
  | .generalProtection => .generalProtection
  | .stackSegment => .stackSegment
  | .pageFault => .pageFault

/-- `REPORT` (R423): with CR0.NE the deferred request, else `picint(13)`; the instruction ends ABNORMAL. -/
def State.report (s : State) : State :=
  if s.cr0 &&& 0x20 ≠ 0 then { s with neReq := true, completion := .abnormal }
  else { s with irq13 := s.irq13 + 1, completion := .abnormal }

/-- `return NORMAL` (R58). -/
def State.normal (s : State) : State := { s with completion := .normal }

/-- WAIT_CYCLES (spec/70_reset_and_hazards.md R470). -/
def waitCycles : Nat := 4

/-- `charge(n)` (R52). -/
def State.charge (s : State) (n : Nat) : State := { s with cycles := s.cycles + n }

/-! ## FPU_ENTRY (R420) -/

/-- The two kinds of escape instruction (R420). -/
inductive Kind where
  | waiting
  | nonwaiting
  deriving DecidableEq, Repr

/-- Every escape instruction: the checks of FPU_ENTRY in their order, then the instruction's own rule, whose result is
NORMAL unless the rule raises a fault. Native passthrough has no rule (R7, D5, notes/assumptions/11.md). -/
def escape (kind : Kind) (s : State) (rule : State → State) : Outcome :=
  if s.inp.lock then .next (s.raiseCpu .invalidOpcode)
  else if s.cr0 &&& 0xC ≠ 0 then .next (s.raiseCpu .deviceNotAvailable)
  else if s.params.softfloat = false then .refused .nativePassthrough
  else if kind = .waiting ∧ swES s.sw = true then .next s.report
  else .next (rule s.normal)

/-! ## COMMIT (R190) -/

/-- A memory write of COMMIT's `writes`: linear address, width, and image. `none` is an image that an unmasked OE or UE
keeps from being written (R160, R161). -/
structure Store where
  addr : Word32
  len : Nat
  image : Option Nat
  deriving DecidableEq, Repr

/-- What an instruction hands to COMMIT. -/
structure Commit where
  /-- E, the flags raised. -/
  exc : Exc := {}
  /-- The condition codes it writes. -/
  codes : Codes := {}
  /-- What C1 receives when an unmasked exception other than a stack fault suppresses every write: the rules write `C1 <- 0`
  before COMMIT (R200, R250, R320), but R300 does not (notes/assumptions/13.md). -/
  c1Suppressed : Option Bool := some false
  /-- The memory write. -/
  store : Option Store := none
  /-- The register writes, pushes and pops. -/
  ops : List StackOp := []
  /-- The relation that EFLAGS receive (R330). -/
  eflags : Option Rel := none
  deriving DecidableEq, Repr

/-- How much of the writes an unmasked exception suppresses (R190). -/
inductive Suppress where
  | nothing
  | memoryAndPop
  | all
  deriving DecidableEq, Repr

/-- The suppression of R190. -/
def Commit.suppress (c : Commit) (cw : Word16) : Suppress :=
  let u := c.exc.unmasked cw
  if u.pre then .all
  else if c.store.isSome && (u.oe || u.ue) then .memoryAndPop
  else .nothing

/-- A register write, as opposed to a push or a pop. -/
def StackOp.isWrite : StackOp → Bool
  | .write _ _ => true
  | .push _ => false
  | .pop => false

/-- The register writes, pushes and pops that are performed. -/
def Commit.opsDone (c : Commit) (sup : Suppress) : List StackOp :=
  match sup with
  | .nothing => c.ops
  | .memoryAndPop => c.ops.filter StackOp.isWrite
  | .all => []

/-- The condition codes that are written: under a full suppression a stack fault's C1, else the C1 the rule wrote before
COMMIT (R190, notes/assumptions/13.md). -/
def Commit.codesDone (c : Commit) (sup : Suppress) : Codes :=
  if sup = .all ∧ c.exc.sf = false then { c.codes with c1 := c.c1Suppressed } else c.codes

/-- `SW[IE,…,SF] |= E`, and ES and B set when an unmasked exception was raised (R190). -/
def raiseFlags (sw cw : Word16) (e : Exc) : Word16 :=
  let r := sw ||| (e.reached cw).toSw
  if (e.unmasked cw).any then setES r true else r

/-- COMMIT after its memory write: the flags, the register writes, pushes and pops, the condition codes. The counter of
draws moves on. -/
def Commit.finish (c : Commit) (sup : Suppress) (s : State) : State :=
  let s1 := { s with sw := raiseFlags s.sw s.cw c.exc }
  let s2 := s1.stackOps (c.opsDone sup)
  { s2 with
    sw := writeCodes s2.sw (c.codesDone sup)
    eflags := match sup, c.eflags with
      | .nothing, some r => relEflags s2.eflags r
      | _, _ => s2.eflags
    draws := s2.draws + 1 }

/-- The memory write that is performed. -/
def Commit.storeDone (c : Commit) (sup : Suppress) : Option (Word32 × Nat × Nat) :=
  match sup, c.store with
  | .nothing, some ⟨a, n, some v⟩ => some (a, n, v)
  | _, _ => none

/-- `COMMIT(E, writes)` (R190). A faulting memory write ends the instruction ABNORMAL with nothing else changed (R85). -/
def commit (c : Commit) (s : State) : State :=
  let sup := c.suppress s.cw
  match c.storeDone sup with
  | none => c.finish sup s
  | some (a, n, v) =>
    match s.memWrite a n v with
    | .error f => s.raiseCpu f.vector
    | .ok mem => c.finish sup { s with mem := mem }

/-! ## Draws (R13, R41) -/

/-- The drawn condition codes of this instruction. -/
def State.drawn (s : State) : BitVec 4 := Config.freeCodes s.draws

/-- "C0, C2, C3 undefined", and the given C1 (R41). -/
def State.codesUndef (s : State) (c1 : Bool) : Codes := drawnCodes s.drawn (some c1)

/-- SW with all four condition codes drawn, and the counter moved on. -/
def State.drawCodes (s : State) : State :=
  { s with sw := writeCodes s.sw (drawnAll s.drawn), draws := s.draws + 1 }

/-- The context of a numeric result of precision p. -/
def State.numCtx (s : State) (p : Nat) : NumCtx := ⟨s.cw, s.params.tininess, p, Config.freeResult s.draws⟩

/-- The precision CW.PC selects (R44). -/
def State.precision (s : State) : Nat := precisionOf s.params s.cw

end Sys2Proof.Machine
end

