-- ==== Sys2Proof/Machine/Operands.lean ====
section
/-! DEFINITION. The memory operand the CPU's effective-address computation gives (spec/30_encoding.md R120), and the memory
operand forms of an instruction (spec/10_state.md R60, spec/20_memory.md R85). -/

namespace Sys2Proof.Machine

/-- The value of a general register (R120). -/
def Gpr.get (g : Gpr) : Reg32 → Word32
  | .eax => g.eax
  | .ecx => g.ecx
  | .edx => g.edx
  | .ebx => g.ebx
  | .esp => g.esp
  | .ebp => g.ebp
  | .esi => g.esi
  | .edi => g.edi

/-- A segment register. -/
def SegFile.get (f : SegFile) : Seg → SegReg
  | .es => f.es
  | .cs => f.cs
  | .ss => f.ss
  | .ds => f.ds
  | .fs => f.fs
  | .gs => f.gs

/-- The low half of a general register. -/
def low16 (w : Word32) : Word16 := w.setWidth 16

/-- The base of an A16 form, modulo 2^16 (R120). -/
def base16Value (g : Gpr) : Base16 → Word16
  | .bxSi => low16 g.ebx + low16 g.esi
  | .bxDi => low16 g.ebx + low16 g.edi
  | .bpSi => low16 g.ebp + low16 g.esi
  | .bpDi => low16 g.ebp + low16 g.edi
  | .si => low16 g.esi
  | .di => low16 g.edi
  | .bp => low16 g.ebp
  | .bx => low16 g.ebx

/-- An A16 displacement: `disp8` is sign-extended (R120). -/
def disp16Value : Disp16 → Word16
  | .none => 0
  | .d8 d => d.signExtend 16
  | .d16 d => d

/-- An A32 displacement: `disp8` is sign-extended (R120). -/
def disp32Value : Disp32 → Word32
  | .none => 0
  | .d8 d => d.signExtend 32
  | .d32 d => d

/-- The scaled index: an index of ESP means no index (R120). -/
def indexValue (g : Gpr) (scale : BitVec 2) : Reg32 → Word32
  | .esp => 0
  | .eax => g.eax <<< scale.toNat
  | .ecx => g.ecx <<< scale.toNat
  | .edx => g.edx <<< scale.toNat
  | .ebx => g.ebx <<< scale.toNat
  | .ebp => g.ebp <<< scale.toNat
  | .esi => g.esi <<< scale.toNat
  | .edi => g.edi <<< scale.toNat

/-- The offset of a memory operand: modulo 2^16 for A16, zero-extended, and modulo 2^32 for A32 (R120, R60). -/
def effOffset (g : Gpr) : MemOp → Word32
  | .abs16 d => d.setWidth 32
  | .ind16 b d => (base16Value g b + disp16Value d).setWidth 32
  | .abs32 d => d
  | .ind32 b d => g.get b + disp32Value d
  | .sib scale index base d => g.get base + indexValue g scale index + disp32Value d
  | .sibAbs scale index d => indexValue g scale index + d

/-- The default segment of an A16 base: SS for the BP forms (R120). -/
def defaultSeg16 : Base16 → Seg
  | .bpSi => .ss
  | .bpDi => .ss
  | .bp => .ss
  | .bxSi => .ds
  | .bxDi => .ds
  | .si => .ds
  | .di => .ds
  | .bx => .ds

/-- The default segment of an A32 base: SS for ESP and EBP (R120). -/
def defaultSeg32 (b : Reg32) : Seg := if b = .esp ∨ b = .ebp then .ss else .ds

/-- The default segment of a memory operand (R120). -/
def defaultSeg : MemOp → Seg
  | .abs16 _ => .ds
  | .ind16 b _ => defaultSeg16 b
  | .abs32 _ => .ds
  | .ind32 b _ => defaultSeg32 b
  | .sib _ _ base _ => defaultSeg32 base
  | .sibAbs _ _ _ => .ds

/-- The segment a memory operand uses: a segment-override prefix replaces the default (R120, R122). -/
def segUsed (inp : Inputs) (m : MemOp) : Seg :=
  match inp.segOverride with
  | some seg => seg
  | none => defaultSeg m

/-- A memory operand: the selector and the offset that FDS and FDP record, and the linear address
(notes/assumptions/5.md). -/
structure MemRef where
  sel : Word16
  off : Word32
  lin : Word32
  deriving DecidableEq, Repr

/-- The memory operand of an instruction in a state. -/
def State.ref (s : State) (m : MemOp) : MemRef :=
  let seg := s.segs.get (segUsed s.inp m)
  let off := effOffset s.gpr m
  ⟨seg.selector, off, seg.base + off⟩

/-- The linear address of a memory operand. -/
def State.addr (s : State) (m : MemOp) : Word32 := (s.ref m).lin

/-- `UPDATE_POINTERS` of an instruction with a memory operand (R60). -/
def State.pointersMem (s : State) (m : MemOp) : State :=
  { s.pointers with fdp := (s.ref m).off, fds := (s.ref m).sel }

/-- A rule with a memory source of `n` bytes: read it, update the pointers, go on with its image. A read fault changes no
FPU state (R59, R85). -/
def withSource (m : MemOp) (n : Nat) (rule : Nat → State → State) (s : State) : State :=
  match s.memRead (s.addr m) n with
  | .error f => s.raiseCpu f.vector
  | .ok v => rule v (s.pointersMem m)

/-- A rule with a memory destination: update the pointers, go on. The rule stores through COMMIT at `s.addr m`. -/
def withDest (m : MemOp) (rule : State → State) (s : State) : State := rule (s.pointersMem m)

/-- The memory write of `n` bytes at the operand's address. -/
def State.storeAt (s : State) (m : MemOp) (n : Nat) (image : Option Nat) : Option Store := some ⟨s.addr m, n, image⟩

end Sys2Proof.Machine
end

