-- ==== Sys2Proof/Machine/LoadStore.lean ====
section
/-! DEFINITION. Loads and stores (spec/41_load_store.md R200 to R220). -/

namespace Sys2Proof.Machine

/-! ## Shared rules -/

/-- A load's COMMIT: the stack-overflow test, then the push of a value with the flags its conversion raised (R200, R176). -/
def pushRule (v : F80) (e : Exc) (s : State) : State :=
  if s.isEmpty 7 then commit { exc := e, codes := s.codesUndef false, ops := [.push v] } s
  else commit { exc := Exc.stackFault, codes := s.codesUndef true, ops := [.push realIndefinite] } s

/-- FLD m32fp and m64fp (R200, R201). -/
def loadFpRule (f : MemFp) (m : MemOp) : State → State :=
  withSource m f.bytes fun img => pushRule (loadFp f img).1 (loadFp f img).2

/-- FLD m80fp (R202): the pattern unchanged. -/
def loadExtRule (m : MemOp) : State → State := withSource m 10 fun img => pushRule (BitVec.ofNat 80 img) Exc.clear

/-- FILD of an integer of `bytes` bytes (R204 to R206). -/
def loadIntRule (bytes : Nat) (m : MemOp) : State → State :=
  withSource m bytes fun img => pushRule (loadInt (8 * bytes) img) Exc.clear

/-- FBLD (R207): an invalid digit gives a draw (R173). -/
def loadBcdRule (m : MemOp) : State → State :=
  withSource m 10 fun img s => pushRule ((loadBcd img).getD (Config.freeResult s.draws)) Exc.clear s

/-- FLD ST(i): "overflow first" (R203, notes/assumptions/38.md), then underflow. -/
def loadStRule (i : BitVec 3) (s : State) : State :=
  if s.isEmpty 7 && s.isEmpty i then
    commit { exc := Exc.stackFault, codes := s.codesUndef false, ops := [.push realIndefinite] } s
  else pushRule (s.st i) Exc.clear s

/-- The pops of an instruction that pops or does not. -/
def popIf (pop : Bool) : List StackOp := if pop then [.pop] else []

/-- A store to memory of `n` bytes through a conversion, then a pop if the instruction pops (R208, R215, R220). -/
def storeRule (conv : State → F80 → StoreResult) (n indefinite : Nat) (pop : Bool) (m : MemOp) : State → State :=
  withDest m fun s =>
    if s.isEmpty 0 then
      commit { exc := Exc.stackFault, codes := s.codesUndef false, store := s.storeAt m n (some indefinite)
               ops := popIf pop } s
    else
      let r := conv s (s.st 0)
      commit { exc := r.exc, codes := s.codesUndef r.c1, store := s.storeAt m n r.bits, ops := popIf pop } s

/-- FST and FSTP to m32fp and m64fp (R208, R209, R211, R212). -/
def storeFpRule (f : MemFp) (pop : Bool) (m : MemOp) : State → State :=
  storeRule (fun s v => storeFp s.cw s.params.tininess f v) f.bytes f.indefinite pop m

/-- FIST and FISTP (R215 to R219). -/
def storeIntRule (bytes : Nat) (pop : Bool) (m : MemOp) : State → State :=
  storeRule (fun s v => storeInt s.cw (8 * bytes) v) bytes (intIndefinite (8 * bytes)) pop m

/-- FSTP m80fp (R213): the pattern unchanged. -/
def storeExtRule (m : MemOp) : State → State :=
  storeRule (fun _ v => ⟨some v.toNat, Exc.clear, false⟩) 10 realIndefinite.toNat true m

/-- FBSTP (R220). -/
def storeBcdRule (m : MemOp) : State → State := storeRule (fun s v => storeBcd s.cw v) 10 bcdIndefinite true m

/-- FST ST(i), and with a pop FSTP ST(i) (R210, R214). -/
def storeStRule (i : BitVec 3) (pop : Bool) (s : State) : State :=
  if s.isEmpty 0 then
    commit { exc := Exc.stackFault, codes := s.codesUndef false, ops := .write i realIndefinite :: popIf pop } s
  else commit { codes := s.codesUndef false, ops := .write i (s.st 0) :: popIf pop } s

/-! ## Loads -/

/-- FLD_m32fp (R200). -/
def execFldM32fp (m : MemOp) (s : State) : Outcome := escape .waiting s (loadFpRule .m32 m)

/-- FLD_m64fp (R201). -/
def execFldM64fp (m : MemOp) (s : State) : Outcome := escape .waiting s (loadFpRule .m64 m)

/-- FLD_m80fp (R202). -/
def execFldM80fp (m : MemOp) (s : State) : Outcome := escape .waiting s (loadExtRule m)

/-- FLD_st (R203). -/
def execFldSt (i : BitVec 3) (s : State) : Outcome := escape .waiting s fun t => loadStRule i t.pointers

/-- FILD_m16int (R204). -/
def execFildM16int (m : MemOp) (s : State) : Outcome := escape .waiting s (loadIntRule 2 m)

/-- FILD_m32int (R205). -/
def execFildM32int (m : MemOp) (s : State) : Outcome := escape .waiting s (loadIntRule 4 m)

/-- FILD_m64int (R206). -/
def execFildM64int (m : MemOp) (s : State) : Outcome := escape .waiting s (loadIntRule 8 m)

/-- FBLD (R207). -/
def execFbld (m : MemOp) (s : State) : Outcome := escape .waiting s (loadBcdRule m)

/-! ## Stores -/

/-- FST_m32fp (R208). -/
def execFstM32fp (m : MemOp) (s : State) : Outcome := escape .waiting s (storeFpRule .m32 false m)

/-- FST_m64fp (R209). -/
def execFstM64fp (m : MemOp) (s : State) : Outcome := escape .waiting s (storeFpRule .m64 false m)

/-- FST_st (R210). -/
def execFstSt (i : BitVec 3) (s : State) : Outcome := escape .waiting s fun t => storeStRule i false t.pointers

/-- FSTP_m32fp (R211). -/
def execFstpM32fp (m : MemOp) (s : State) : Outcome := escape .waiting s (storeFpRule .m32 true m)

/-- FSTP_m64fp (R212). -/
def execFstpM64fp (m : MemOp) (s : State) : Outcome := escape .waiting s (storeFpRule .m64 true m)

/-- FSTP_m80fp (R213). -/
def execFstpM80fp (m : MemOp) (s : State) : Outcome := escape .waiting s (storeExtRule m)

/-- FSTP_st (R214). -/
def execFstpSt (i : BitVec 3) (s : State) : Outcome := escape .waiting s fun t => storeStRule i true t.pointers

/-- FSTP1_st (R214). -/
def execFstp1St (i : BitVec 3) (s : State) : Outcome := escape .waiting s fun t => storeStRule i true t.pointers

/-- FSTP8_st (R214). -/
def execFstp8St (i : BitVec 3) (s : State) : Outcome := escape .waiting s fun t => storeStRule i true t.pointers

/-- FSTP9_st (R214). -/
def execFstp9St (i : BitVec 3) (s : State) : Outcome := escape .waiting s fun t => storeStRule i true t.pointers

/-- FIST_m16int (R215). -/
def execFistM16int (m : MemOp) (s : State) : Outcome := escape .waiting s (storeIntRule 2 false m)

/-- FIST_m32int (R216). -/
def execFistM32int (m : MemOp) (s : State) : Outcome := escape .waiting s (storeIntRule 4 false m)

/-- FISTP_m16int (R217). -/
def execFistpM16int (m : MemOp) (s : State) : Outcome := escape .waiting s (storeIntRule 2 true m)

/-- FISTP_m32int (R218). -/
def execFistpM32int (m : MemOp) (s : State) : Outcome := escape .waiting s (storeIntRule 4 true m)

/-- FISTP_m64int (R219). -/
def execFistpM64int (m : MemOp) (s : State) : Outcome := escape .waiting s (storeIntRule 8 true m)

/-- FBSTP (R220). -/
def execFbstp (m : MemOp) (s : State) : Outcome := escape .waiting s (storeBcdRule m)

end Sys2Proof.Machine
end

