-- ==== Sys2Proof/Machine/Arithmetic.lean ====
section
/-! DEFINITION. The binary arithmetic instructions (spec/42_arithmetic.md R250 to R293). -/

namespace Sys2Proof.Machine

/-- The result for a destination operand d and a source operand s: `d op s`, or `s op d` for a reversed operation (R251). -/
def arithValue (k : ArithOp) (reversed : Bool) (c : NumCtx) (d s : Operand) : Result :=
  if reversed then arithResult k c s d else arithResult k c d s

/-- `ARITH` after its operands are read (R250): `empty` says that a register operand is empty, and `dst` names the
destination register. -/
def arithRule (k : ArithOp) (reversed empty : Bool) (d src : Operand) (dst : BitVec 3) (pop : Bool) (s : State) : State :=
  if empty then
    commit { exc := Exc.stackFault, codes := s.codesUndef false, ops := .write dst realIndefinite :: popIf pop } s
  else
    let r := arithValue k reversed (s.numCtx s.precision) d src
    commit { exc := r.exc, codes := s.codesUndef r.c1, ops := .write dst r.v :: popIf pop } s

/-- FX m32fp and FX m64fp: d = ST(0) (R251). -/
def arithFpRule (k : ArithOp) (reversed : Bool) (f : MemFp) (m : MemOp) : State → State :=
  withSource m f.bytes fun img s =>
    arithRule k reversed (s.isEmpty 0) (.reg (s.st 0)) (widenFp f img) 0 false s

/-- FIX m32int and FIX m16int: d = ST(0) (R251). -/
def arithIntRule (k : ArithOp) (reversed : Bool) (bytes : Nat) (m : MemOp) : State → State :=
  withSource m bytes fun img s =>
    arithRule k reversed (s.isEmpty 0) (.reg (s.st 0)) ⟨loadInt (8 * bytes) img, false⟩ 0 false s

/-- The register forms: d = ST(dst), s = ST(src) (R251). -/
def arithStRule (k : ArithOp) (reversed : Bool) (dst src : BitVec 3) (pop : Bool) (s : State) : State :=
  arithRule k reversed (s.isEmpty dst || s.isEmpty src) (.reg (s.st dst)) (.reg (s.st src)) dst pop s

/-- FADD_m32fp (R252). -/
def execFaddM32fp (m : MemOp) (s : State) : Outcome := escape .waiting s (arithFpRule .add false .m32 m)

/-- FADD_m64fp (R253). -/
def execFaddM64fp (m : MemOp) (s : State) : Outcome := escape .waiting s (arithFpRule .add false .m64 m)

/-- FADD_st0_sti (R254). -/
def execFaddSt0Sti (i : BitVec 3) (s : State) : Outcome :=
  escape .waiting s fun t => arithStRule .add false 0 i false t.pointers

/-- FADD_sti_st0 (R255). -/
def execFaddStiSt0 (i : BitVec 3) (s : State) : Outcome :=
  escape .waiting s fun t => arithStRule .add false i 0 false t.pointers

/-- FADDP (R256). -/
def execFaddp (i : BitVec 3) (s : State) : Outcome := escape .waiting s fun t => arithStRule .add false i 0 true t.pointers

/-- FIADD_m32int (R257). -/
def execFiaddM32int (m : MemOp) (s : State) : Outcome := escape .waiting s (arithIntRule .add false 4 m)

/-- FIADD_m16int (R258). -/
def execFiaddM16int (m : MemOp) (s : State) : Outcome := escape .waiting s (arithIntRule .add false 2 m)

/-- FMUL_m32fp (R259). -/
def execFmulM32fp (m : MemOp) (s : State) : Outcome := escape .waiting s (arithFpRule .mul false .m32 m)

/-- FMUL_m64fp (R260). -/
def execFmulM64fp (m : MemOp) (s : State) : Outcome := escape .waiting s (arithFpRule .mul false .m64 m)

/-- FMUL_st0_sti (R261). -/
def execFmulSt0Sti (i : BitVec 3) (s : State) : Outcome :=
  escape .waiting s fun t => arithStRule .mul false 0 i false t.pointers

/-- FMUL_sti_st0 (R262). -/
def execFmulStiSt0 (i : BitVec 3) (s : State) : Outcome :=
  escape .waiting s fun t => arithStRule .mul false i 0 false t.pointers

/-- FMULP (R263). -/
def execFmulp (i : BitVec 3) (s : State) : Outcome := escape .waiting s fun t => arithStRule .mul false i 0 true t.pointers

/-- FIMUL_m32int (R264). -/
def execFimulM32int (m : MemOp) (s : State) : Outcome := escape .waiting s (arithIntRule .mul false 4 m)

/-- FIMUL_m16int (R265). -/
def execFimulM16int (m : MemOp) (s : State) : Outcome := escape .waiting s (arithIntRule .mul false 2 m)

/-- FSUB_m32fp (R266). -/
def execFsubM32fp (m : MemOp) (s : State) : Outcome := escape .waiting s (arithFpRule .sub false .m32 m)

/-- FSUB_m64fp (R267). -/
def execFsubM64fp (m : MemOp) (s : State) : Outcome := escape .waiting s (arithFpRule .sub false .m64 m)

/-- FSUB_st0_sti (R268). -/
def execFsubSt0Sti (i : BitVec 3) (s : State) : Outcome :=
  escape .waiting s fun t => arithStRule .sub false 0 i false t.pointers

/-- FSUB_sti_st0 (R269). -/
def execFsubStiSt0 (i : BitVec 3) (s : State) : Outcome :=
  escape .waiting s fun t => arithStRule .sub false i 0 false t.pointers

/-- FSUBP (R270). -/
def execFsubp (i : BitVec 3) (s : State) : Outcome := escape .waiting s fun t => arithStRule .sub false i 0 true t.pointers

/-- FISUB_m32int (R271). -/
def execFisubM32int (m : MemOp) (s : State) : Outcome := escape .waiting s (arithIntRule .sub false 4 m)

/-- FISUB_m16int (R272). -/
def execFisubM16int (m : MemOp) (s : State) : Outcome := escape .waiting s (arithIntRule .sub false 2 m)

/-- FSUBR_m32fp (R273). -/
def execFsubrM32fp (m : MemOp) (s : State) : Outcome := escape .waiting s (arithFpRule .sub true .m32 m)

/-- FSUBR_m64fp (R274). -/
def execFsubrM64fp (m : MemOp) (s : State) : Outcome := escape .waiting s (arithFpRule .sub true .m64 m)

/-- FSUBR_st0_sti (R275). -/
def execFsubrSt0Sti (i : BitVec 3) (s : State) : Outcome :=
  escape .waiting s fun t => arithStRule .sub true 0 i false t.pointers

/-- FSUBR_sti_st0 (R276). -/
def execFsubrStiSt0 (i : BitVec 3) (s : State) : Outcome :=
  escape .waiting s fun t => arithStRule .sub true i 0 false t.pointers

/-- FSUBRP (R277). -/
def execFsubrp (i : BitVec 3) (s : State) : Outcome := escape .waiting s fun t => arithStRule .sub true i 0 true t.pointers

/-- FISUBR_m32int (R278). -/
def execFisubrM32int (m : MemOp) (s : State) : Outcome := escape .waiting s (arithIntRule .sub true 4 m)

/-- FISUBR_m16int (R279). -/
def execFisubrM16int (m : MemOp) (s : State) : Outcome := escape .waiting s (arithIntRule .sub true 2 m)

/-- FDIV_m32fp (R280). -/
def execFdivM32fp (m : MemOp) (s : State) : Outcome := escape .waiting s (arithFpRule .div false .m32 m)

/-- FDIV_m64fp (R281). -/
def execFdivM64fp (m : MemOp) (s : State) : Outcome := escape .waiting s (arithFpRule .div false .m64 m)

/-- FDIV_st0_sti (R282). -/
def execFdivSt0Sti (i : BitVec 3) (s : State) : Outcome :=
  escape .waiting s fun t => arithStRule .div false 0 i false t.pointers

/-- FDIV_sti_st0 (R283). -/
def execFdivStiSt0 (i : BitVec 3) (s : State) : Outcome :=
  escape .waiting s fun t => arithStRule .div false i 0 false t.pointers

/-- FDIVP (R284). -/
def execFdivp (i : BitVec 3) (s : State) : Outcome := escape .waiting s fun t => arithStRule .div false i 0 true t.pointers

/-- FIDIV_m32int (R285). -/
def execFidivM32int (m : MemOp) (s : State) : Outcome := escape .waiting s (arithIntRule .div false 4 m)

/-- FIDIV_m16int (R286). -/
def execFidivM16int (m : MemOp) (s : State) : Outcome := escape .waiting s (arithIntRule .div false 2 m)

/-- FDIVR_m32fp (R287). -/
def execFdivrM32fp (m : MemOp) (s : State) : Outcome := escape .waiting s (arithFpRule .div true .m32 m)

/-- FDIVR_m64fp (R288). -/
def execFdivrM64fp (m : MemOp) (s : State) : Outcome := escape .waiting s (arithFpRule .div true .m64 m)

/-- FDIVR_st0_sti (R289). -/
def execFdivrSt0Sti (i : BitVec 3) (s : State) : Outcome :=
  escape .waiting s fun t => arithStRule .div true 0 i false t.pointers

/-- FDIVR_sti_st0 (R290). -/
def execFdivrStiSt0 (i : BitVec 3) (s : State) : Outcome :=
  escape .waiting s fun t => arithStRule .div true i 0 false t.pointers

/-- FDIVRP (R291). -/
def execFdivrp (i : BitVec 3) (s : State) : Outcome := escape .waiting s fun t => arithStRule .div true i 0 true t.pointers

/-- FIDIVR_m32int (R292). -/
def execFidivrM32int (m : MemOp) (s : State) : Outcome := escape .waiting s (arithIntRule .div true 4 m)

/-- FIDIVR_m16int (R293). -/
def execFidivrM16int (m : MemOp) (s : State) : Outcome := escape .waiting s (arithIntRule .div true 2 m)

end Sys2Proof.Machine
end

