-- ==== Sys2Proof/Machine/Compare.lean ====
section
/-! DEFINITION. Comparison and classification (spec/44_compare.md R320 to R341). -/

namespace Sys2Proof.Machine

/-- Where a compare writes its relation (R320, R330). -/
inductive Target where
  | cc
  | eflags
  deriving DecidableEq, Repr

/-- The condition codes of a compare: C1 is 0, and the relation is written to SW unless it goes to EFLAGS or an unmasked IE
or DE suppresses it (R320, R330). -/
def compareCodes (target : Target) (cw : Word16) (rel : Rel) (e : Exc) : Codes :=
  match target with
  | .cc => if (e.unmasked cw).pre then { c1 := some false } else { relCodes rel with c1 := some false }
  | .eflags => { c1 := some false }

/-- `COMPARE` after its operands are read: `empty` says that a register operand is empty, `b` is the right operand, and
`pops` the pops that follow (R320). -/
def compareRule (empty ordered : Bool) (b : Operand) (target : Target) (pops : List StackOp) (s : State) : State :=
  let r : Rel × Exc :=
    if empty then (.unordered, Exc.stackFault) else compareResult ordered (.reg (s.st 0)) b
  commit
    { exc := r.2, codes := compareCodes target s.cw r.1 r.2, ops := pops
      eflags := if target = .eflags then some r.1 else none } s

/-- A compare with ST(i). -/
def compareStRule (ordered : Bool) (i : BitVec 3) (target : Target) (pops : List StackOp) (s : State) : State :=
  compareRule (s.isEmpty 0 || s.isEmpty i) ordered (.reg (s.st i)) target pops s

/-- A compare with an m32fp or m64fp operand, its class kept. -/
def compareFpRule (f : MemFp) (pops : List StackOp) (m : MemOp) : State → State :=
  withSource m f.bytes fun img s => compareRule (s.isEmpty 0) true (widenFp f img) .cc pops s

/-- A compare with an integer operand of `bytes` bytes. -/
def compareIntRule (bytes : Nat) (pops : List StackOp) (m : MemOp) : State → State :=
  withSource m bytes fun img s => compareRule (s.isEmpty 0) true ⟨loadInt (8 * bytes) img, false⟩ .cc pops s

/-- FTST: the right operand is +0 (R337). -/
def testRule (s : State) : State := compareRule (s.isEmpty 0) true ⟨zeroF80 false, false⟩ .cc [] s

/-- The class code C3, C2, C0 of FXAM; an empty register is told by its tag alone (R336). -/
def classCodes (empty : Bool) (v : F80) : Codes :=
  if empty then { c3 := some true, c2 := some false, c0 := some true }
  else
    match classOf v with
    | .unnormal | .pseudoInfNan => { c3 := some false, c2 := some false, c0 := some false }
    | .qnan | .snan => { c3 := some false, c2 := some false, c0 := some true }
    | .normal => { c3 := some false, c2 := some true, c0 := some false }
    | .infinity => { c3 := some false, c2 := some true, c0 := some true }
    | .zero => { c3 := some true, c2 := some false, c0 := some false }
    | .denormal | .pseudoDenormal => { c3 := some true, c2 := some true, c0 := some false }

/-- FXAM: C1 is the sign, read even when the register is empty (R336). -/
def examineRule (s : State) : State :=
  { s with sw := writeCodes s.sw { classCodes (s.isEmpty 0) (s.st 0) with c1 := some (signOf (s.st 0)) } }

/-! ## The instructions -/

/-- FCOM_m32fp (R321). -/
def execFcomM32fp (m : MemOp) (s : State) : Outcome := escape .waiting s (compareFpRule .m32 [] m)

/-- FCOM_m64fp (R322). -/
def execFcomM64fp (m : MemOp) (s : State) : Outcome := escape .waiting s (compareFpRule .m64 [] m)

/-- FCOM_st (R323). -/
def execFcomSt (i : BitVec 3) (s : State) : Outcome := escape .waiting s fun t => compareStRule true i .cc [] t.pointers

/-- FCOM2_st (R323). -/
def execFcom2St (i : BitVec 3) (s : State) : Outcome := escape .waiting s fun t => compareStRule true i .cc [] t.pointers

/-- FCOMP_m32fp (R324). -/
def execFcompM32fp (m : MemOp) (s : State) : Outcome := escape .waiting s (compareFpRule .m32 [.pop] m)

/-- FCOMP_m64fp (R325). -/
def execFcompM64fp (m : MemOp) (s : State) : Outcome := escape .waiting s (compareFpRule .m64 [.pop] m)

/-- FCOMP_st (R326). -/
def execFcompSt (i : BitVec 3) (s : State) : Outcome :=
  escape .waiting s fun t => compareStRule true i .cc [.pop] t.pointers

/-- FCOMP3_st (R326). -/
def execFcomp3St (i : BitVec 3) (s : State) : Outcome :=
  escape .waiting s fun t => compareStRule true i .cc [.pop] t.pointers

/-- FCOMP5_st (R326). -/
def execFcomp5St (i : BitVec 3) (s : State) : Outcome :=
  escape .waiting s fun t => compareStRule true i .cc [.pop] t.pointers

/-- FCOMPP (R327). -/
def execFcompp (s : State) : Outcome := escape .waiting s fun t => compareStRule true 1 .cc [.pop, .pop] t.pointers

/-- FUCOM (R328). -/
def execFucom (i : BitVec 3) (s : State) : Outcome := escape .waiting s fun t => compareStRule false i .cc [] t.pointers

/-- FUCOMP (R329). -/
def execFucomp (i : BitVec 3) (s : State) : Outcome :=
  escape .waiting s fun t => compareStRule false i .cc [.pop] t.pointers

/-- FUCOMPP (R335). -/
def execFucompp (s : State) : Outcome := escape .waiting s fun t => compareStRule false 1 .cc [.pop, .pop] t.pointers

/-- FCOMI (R331). -/
def execFcomi (i : BitVec 3) (s : State) : Outcome := escape .waiting s fun t => compareStRule true i .eflags [] t.pointers

/-- FCOMIP (R332). -/
def execFcomip (i : BitVec 3) (s : State) : Outcome :=
  escape .waiting s fun t => compareStRule true i .eflags [.pop] t.pointers

/-- FUCOMI (R333). -/
def execFucomi (i : BitVec 3) (s : State) : Outcome :=
  escape .waiting s fun t => compareStRule false i .eflags [] t.pointers

/-- FUCOMIP (R334). -/
def execFucomip (i : BitVec 3) (s : State) : Outcome :=
  escape .waiting s fun t => compareStRule false i .eflags [.pop] t.pointers

/-- FXAM (R336). -/
def execFxam (s : State) : Outcome := escape .waiting s fun t => examineRule t.pointers

/-- FTST (R337). -/
def execFtst (s : State) : Outcome := escape .waiting s fun t => testRule t.pointers

/-- FICOM_m16int (R338). -/
def execFicomM16int (m : MemOp) (s : State) : Outcome := escape .waiting s (compareIntRule 2 [] m)

/-- FICOM_m32int (R339). -/
def execFicomM32int (m : MemOp) (s : State) : Outcome := escape .waiting s (compareIntRule 4 [] m)

/-- FICOMP_m16int (R340). -/
def execFicompM16int (m : MemOp) (s : State) : Outcome := escape .waiting s (compareIntRule 2 [.pop] m)

/-- FICOMP_m32int (R341). -/
def execFicompM32int (m : MemOp) (s : State) : Outcome := escape .waiting s (compareIntRule 4 [.pop] m)

end Sys2Proof.Machine
end

