-- ==== Sys2Proof/Machine/CondMove.lean ====
section
/-! DEFINITION. The conditional moves (spec/41_load_store.md R230 to R238). -/

namespace Sys2Proof.Machine

/-- The conditions of R231 to R238, on EFLAGS. -/
inductive Cond where
  | b
  | e
  | be
  | u
  | nb
  | ne
  | nbe
  | nu
  deriving DecidableEq, Repr

/-- Whether EFLAGS meet a condition (R231 to R238). -/
def Cond.holds (c : Cond) (f : Word32) : Bool :=
  match c with
  | .b => eflagsCF f
  | .e => eflagsZF f
  | .be => eflagsCF f || eflagsZF f
  | .u => eflagsPF f
  | .nb => !eflagsCF f
  | .ne => !eflagsZF f
  | .nbe => !eflagsCF f && !eflagsZF f
  | .nu => !eflagsPF f

/-- `FCMOV(cond)` (R230): C1 is 0 on underflow, else undefined. -/
def fcmovRule (c : Cond) (i : BitVec 3) (s : State) : State :=
  if s.isEmpty 0 || s.isEmpty i then
    commit { exc := Exc.stackFault, codes := s.codesUndef false, ops := [.write 0 realIndefinite] } s
  else commit { codes := drawnAll s.drawn, ops := if c.holds s.eflags then [.write 0 (s.st i)] else [] } s

/-- FCMOVB (R231). -/
def execFcmovb (i : BitVec 3) (s : State) : Outcome := escape .waiting s fun t => fcmovRule .b i t.pointers

/-- FCMOVE (R232). -/
def execFcmove (i : BitVec 3) (s : State) : Outcome := escape .waiting s fun t => fcmovRule .e i t.pointers

/-- FCMOVBE (R233). -/
def execFcmovbe (i : BitVec 3) (s : State) : Outcome := escape .waiting s fun t => fcmovRule .be i t.pointers

/-- FCMOVU (R234). -/
def execFcmovu (i : BitVec 3) (s : State) : Outcome := escape .waiting s fun t => fcmovRule .u i t.pointers

/-- FCMOVNB (R235). -/
def execFcmovnb (i : BitVec 3) (s : State) : Outcome := escape .waiting s fun t => fcmovRule .nb i t.pointers

/-- FCMOVNE (R236). -/
def execFcmovne (i : BitVec 3) (s : State) : Outcome := escape .waiting s fun t => fcmovRule .ne i t.pointers

/-- FCMOVNBE (R237). -/
def execFcmovnbe (i : BitVec 3) (s : State) : Outcome := escape .waiting s fun t => fcmovRule .nbe i t.pointers

/-- FCMOVNU (R238). -/
def execFcmovnu (i : BitVec 3) (s : State) : Outcome := escape .waiting s fun t => fcmovRule .nu i t.pointers

end Sys2Proof.Machine
end

