-- ==== Sys2Proof/Machine/Constants.lean ====
section
/-! DEFINITION. The constants (spec/41_load_store.md R221 to R228). -/

namespace Sys2Proof.Machine

/-- The constants of R221. -/
inductive Constant where
  | one
  | l2t
  | l2e
  | pi
  | lg2
  | ln2
  | zero
  deriving DecidableEq, Repr

/-- The table of R221: the constant rounded to 64 bits in the direction RC. -/
def Constant.value : Constant → RC → F80
  | .one, _ => 0x3FFF8000000000000000
  | .l2t, .ru => 0x4000D49A784BCD1B8AFF
  | .l2t, _ => 0x4000D49A784BCD1B8AFE
  | .l2e, .rn | .l2e, .ru => 0x3FFFB8AA3B295C17F0BC
  | .l2e, .rd | .l2e, .rz => 0x3FFFB8AA3B295C17F0BB
  | .pi, .rn | .pi, .ru => 0x4000C90FDAA22168C235
  | .pi, .rd | .pi, .rz => 0x4000C90FDAA22168C234
  | .lg2, .rn | .lg2, .ru => 0x3FFD9A209A84FBCFF799
  | .lg2, .rd | .lg2, .rz => 0x3FFD9A209A84FBCFF798
  | .ln2, .rn | .ln2, .ru => 0x3FFEB17217F7D1CF79AC
  | .ln2, .rd | .ln2, .rz => 0x3FFEB17217F7D1CF79AB
  | .zero, _ => 0

/-- `LOAD_CONST` (R221). -/
def constRule (k : Constant) (s : State) : State := pushRule (k.value (rcOf s.cw)) Exc.clear s

/-- FLD1 (R222). -/
def execFld1 (s : State) : Outcome := escape .waiting s fun t => constRule .one t.pointers

/-- FLDL2T (R223). -/
def execFldl2t (s : State) : Outcome := escape .waiting s fun t => constRule .l2t t.pointers

/-- FLDL2E (R224). -/
def execFldl2e (s : State) : Outcome := escape .waiting s fun t => constRule .l2e t.pointers

/-- FLDPI (R225). -/
def execFldpi (s : State) : Outcome := escape .waiting s fun t => constRule .pi t.pointers

/-- FLDLG2 (R226). -/
def execFldlg2 (s : State) : Outcome := escape .waiting s fun t => constRule .lg2 t.pointers

/-- FLDLN2 (R227). -/
def execFldln2 (s : State) : Outcome := escape .waiting s fun t => constRule .ln2 t.pointers

/-- FLDZ (R228). -/
def execFldz (s : State) : Outcome := escape .waiting s fun t => constRule .zero t.pointers

end Sys2Proof.Machine
end

