-- ==== Sys2Proof/Machine/Control.lean ====
section
/-! DEFINITION. The control instructions, the environment and save images, and WAIT (spec/46_control.md R370 to R402,
spec/20_memory.md R86, R87). None of them updates the pointers (spec/10_state.md R60). -/

namespace Sys2Proof.Machine

/-! ## Control word and status word -/

/-- A 2-byte store of a register, after which all four condition codes are drawn (R371, R373). -/
def storeWordRule (value : State → Word16) (m : MemOp) (s : State) : State :=
  match s.memWrite (s.addr m) 2 (value s).toNat with
  | .error f => s.raiseCpu f.vector
  | .ok mem => { s with mem := mem }.drawCodes

/-- CW replaced as R46 says, and ES and B recomputed (R372). -/
def State.loadCw (s : State) (v : Word16) : State := { s with cw := cwStored v, sw := recomputeES s.sw (cwStored v) }

/-- FLDCW (R372). -/
def loadCwRule (m : MemOp) (s : State) : State :=
  match s.memRead (s.addr m) 2 with
  | .error f => s.raiseCpu f.vector
  | .ok v => (s.loadCw (BitVec.ofNat 16 v)).drawCodes

/-- FNSTSW AX: AX receives SW, the upper half of EAX is unchanged (R377, R53). -/
def storeAxRule (s : State) : State :=
  { s with gpr := { s.gpr with eax := (s.gpr.eax &&& 0xFFFF0000) ||| s.sw.setWidth 32 } }.drawCodes

/-- FNCLEX: IE, DE, ZE, OE, UE, PE, SF, ES and B cleared (R374). -/
def clearExceptions (sw : Word16) : Word16 := sw &&& 0x7F00

/-- FNCLEX (R374). -/
def clearExRule (s : State) : State := { s with sw := clearExceptions s.sw }.drawCodes

/-- The state change of FNINIT (R375): the registers keep their bits. -/
def State.fninit (s : State) : State :=
  { s with
    cw := 0x037F
    sw := 0x0000
    tags := Vector.replicate 8 .empty
    fip := 0
    fcs := 0
    fop := 0
    fdp := 0
    fds := 0 }

/-! ## Environment images (R86) -/

/-- The two bits of a tag (R34). -/
def Tag.code : Tag → Nat
  | .valid => 0
  | .zero => 1
  | .special => 2
  | .empty => 3

/-- The number a list of tags stands for, two bits each, the first lowest. -/
def tagsValue : List Tag → Nat
  | [] => 0
  | t :: ts => t.code + 4 * tagsValue ts

/-- The tag word TW (R34). -/
def State.tagWord (s : State) : Nat := tagsValue s.tags.toList

/-- The linear pointer `((sel << 4) + off) mod 2^32` of the real layouts (R86). -/
def linearPointer (sel : Word16) (off : Word32) : Nat := ((sel.setWidth 32 <<< 4) + off).toNat

/-- The environment's layout (R86). -/
inductive Layout where
  | prot16
  | real16
  | prot32
  | real32
  deriving DecidableEq, Repr

/-- The layout `OP_SIZE` and `CPU_MODE` choose (R86). -/
def layoutOf (op : OpSize) (mode : CpuMode) : Layout :=
  match op, mode with
  | .o16, .prot => .prot16
  | .o16, .real => .real16
  | .o16, .vm86 => .real16
  | .o32, .prot => .prot32
  | .o32, .real => .real32
  | .o32, .vm86 => .real32

/-- The size of the environment image in bytes (R86). -/
def Layout.size : Layout → Nat
  | .prot16 => 14
  | .real16 => 14
  | .prot32 => 28
  | .real32 => 28

/-- The width of one field of the image in bytes. -/
def Layout.width : Layout → Nat
  | .prot16 => 2
  | .real16 => 2
  | .prot32 => 4
  | .real32 => 4

/-- The seven fields of the image, in increasing offset order (R86). -/
def envValues (l : Layout) (s : State) : List Nat :=
  let cw := s.cw.toNat
  let sw := s.sw.toNat
  let tw := s.tagWord
  let ipl := linearPointer s.fcs s.fip
  let dpl := linearPointer s.fds s.fdp
  let high := 0xFFFF0000
  match l with
  | .prot16 => [cw, sw, tw, s.fip.toNat % 2 ^ 16, s.fcs.toNat, s.fdp.toNat % 2 ^ 16, s.fds.toNat]
  | .real16 =>
    [cw, sw, tw, ipl % 2 ^ 16, (ipl / 2 ^ 16 % 16) * 2 ^ 12 + s.fop.toNat, dpl % 2 ^ 16, (dpl / 2 ^ 16 % 16) * 2 ^ 12]
  | .prot32 =>
    [high + cw, high + sw, high + tw, s.fip.toNat, s.fop.toNat * 2 ^ 16 + s.fcs.toNat, s.fdp.toNat, high + s.fds.toNat]
  | .real32 =>
    [high + cw, high + sw, high + tw, high + ipl % 2 ^ 16, (ipl / 2 ^ 16) * 2 ^ 12 + s.fop.toNat,
      high + dpl % 2 ^ 16, (dpl / 2 ^ 16) * 2 ^ 12]

/-- Values at consecutive offsets from `off` on, each `n` bytes wide. -/
def fieldsFrom (n : Nat) : Nat → List Nat → List Field
  | _, [] => []
  | off, v :: vs => ⟨off, n, v⟩ :: fieldsFrom n (off + n) vs

/-- The environment image (R86, R381). -/
def envFields (l : Layout) (s : State) : List Field := fieldsFrom l.width 0 (envValues l s)

/-- The register images of FNSAVE, ST(0) to ST(7), whatever their tags (R87). -/
def saveValues (s : State) : List Nat :=
  [(s.st 0).toNat, (s.st 1).toNat, (s.st 2).toNat, (s.st 3).toNat, (s.st 4).toNat, (s.st 5).toNat, (s.st 6).toNat,
    (s.st 7).toNat]

/-- The save image (R87). -/
def saveFields (l : Layout) (s : State) : List Field := envFields l s ++ fieldsFrom 10 l.size (saveValues s)

/-- The offsets and widths of `k` fields of `n` bytes from `off` on. -/
def slotsFrom (n : Nat) : Nat → Nat → List (Nat × Nat)
  | _, 0 => []
  | off, k + 1 => (off, n) :: slotsFrom n (off + n) k

/-- The fields `READ_ENV` reads (R382). -/
def envSlots (l : Layout) : List (Nat × Nat) := slotsFrom l.width 0 7

/-- The fields FRSTOR reads (R387). -/
def saveSlots (l : Layout) : List (Nat × Nat) := envSlots l ++ slotsFrom 10 l.size 8

/-- The fields of an environment (R382). -/
structure Env where
  cw : Word16
  sw : Word16
  tw : Word16
  fip : Word32
  fcs : Word16
  fop : BitVec 11
  fdp : Word32
  fds : Word16
  deriving DecidableEq, Repr

/-- Bits `hi:lo` of a number, as a number of width `hi - lo + 1`. -/
def bitsOf (v lo n : Nat) : Nat := v / 2 ^ lo % 2 ^ n

/-- `READ_ENV` of the seven field values `a` to `g`, in offset order (R382). -/
def envOf (l : Layout) (a b c d e f g : Nat) : Env :=
  let cw := BitVec.ofNat 16 a
  let sw := BitVec.ofNat 16 b
  let tw := BitVec.ofNat 16 c
  match l with
  | .prot16 => ⟨cw, sw, tw, BitVec.ofNat 32 d, BitVec.ofNat 16 e, 0, BitVec.ofNat 32 f, BitVec.ofNat 16 g⟩
  | .real16 =>
    ⟨cw, sw, tw, BitVec.ofNat 32 (bitsOf e 12 4 * 2 ^ 16 + d), 0, BitVec.ofNat 11 e,
      BitVec.ofNat 32 (bitsOf g 12 4 * 2 ^ 16 + f), 0⟩
  | .prot32 =>
    ⟨cw, sw, tw, BitVec.ofNat 32 d, BitVec.ofNat 16 e, BitVec.ofNat 11 (bitsOf e 16 11), BitVec.ofNat 32 f,
      BitVec.ofNat 16 g⟩
  | .real32 =>
    ⟨cw, sw, tw, BitVec.ofNat 32 (bitsOf e 12 16 * 2 ^ 16 + bitsOf d 0 16), 0, BitVec.ofNat 11 e,
      BitVec.ofNat 32 (bitsOf g 12 16 * 2 ^ 16 + bitsOf f 0 16), 0⟩

/-- The two bits of a tag word for register k (R34). -/
def tagBits (tw : Word16) (k : Nat) : BitVec 2 := tw.extractLsb' (2 * k) 2

/-- The tags a loaded tag word gives: empty where it says so, else those of the contents (R383). -/
def installTags (tw : Word16) (regs : Vector F80 8) : Vector Tag 8 :=
  Vector.ofFn fun k => if tagBits tw k.val = 3 then .empty else tagOf regs[k]

/-- `INSTALL_ENV` (R383). -/
def State.installEnv (s : State) (x : Env) : State :=
  { s with
    cw := cwStored x.cw
    sw := recomputeES x.sw (cwStored x.cw)
    tags := installTags x.tw s.regs
    fip := x.fip
    fcs := x.fcs
    fop := x.fop
    fdp := x.fdp
    fds := x.fds }

/-- The layout of this instruction's image (R86). -/
def State.layout (s : State) : Layout := layoutOf s.inp.opSize s.mode

/-- The fields written in order; a fault ends the instruction ABNORMAL with the earlier fields written (R85, R88). -/
def storeImage (fields : List Field) (m : MemOp) (after : State → State) (s : State) : State :=
  let x := writeFields s.faultMap s.mem (s.addr m) fields
  match x.2 with
  | some f => { s with mem := x.1 }.raiseCpu f.vector
  | none => after { s with mem := x.1 }

/-- What FNSTENV does after its store: every exception is masked (R384). -/
def maskAll (s : State) : State := { s with cw := s.cw ||| 0x003F, sw := recomputeES s.sw (s.cw ||| 0x003F) }.drawCodes

/-- FNSTENV (R384). -/
def storeEnvRule (m : MemOp) (s : State) : State := storeImage (envFields s.layout s) m maskAll s

/-- FNSAVE (R386). -/
def saveRule (m : MemOp) (s : State) : State := storeImage (saveFields s.layout s) m State.fninit s

/-- FLDENV (R385): every read precedes every change. -/
def loadEnvRule (m : MemOp) (s : State) : State :=
  match s.readFields (s.addr m) (envSlots s.layout) with
  | .error f => s.raiseCpu f.vector
  | .ok [a, b, c, d, e, f, g] => s.installEnv (envOf s.layout a b c d e f g)
  | .ok _ => s

/-- R[(t + i) mod 8] for i from 0 on replaced by a list of images; the tags are left to `installEnv` (R387). -/
def loadRegs (t : BitVec 3) : List Nat → Vector F80 8 → Vector F80 8
  | [], regs => regs
  | v :: vs, regs => loadRegs (t + 1) vs (regs.set t.toNat (BitVec.ofNat 80 v))

/-- FRSTOR (R387): ST(i) is relative to the loaded TOP, and the tags use the new contents. -/
def restoreRule (m : MemOp) (s : State) : State :=
  match s.readFields (s.addr m) (saveSlots s.layout) with
  | .error f => s.raiseCpu f.vector
  | .ok (a :: b :: c :: d :: e :: f :: g :: imgs) =>
    let x := envOf s.layout a b c d e f g
    { s with regs := loadRegs (topOf x.sw) imgs s.regs }.installEnv x
  | .ok _ => s

/-! ## The instructions -/

/-- FNSTCW (R371). -/
def execFnstcw (m : MemOp) (s : State) : Outcome := escape .nonwaiting s (storeWordRule State.cw m)

/-- FLDCW (R372). -/
def execFldcw (m : MemOp) (s : State) : Outcome := escape .waiting s (loadCwRule m)

/-- FNSTSW_m2byte (R373). -/
def execFnstswM2byte (m : MemOp) (s : State) : Outcome := escape .nonwaiting s (storeWordRule State.sw m)

/-- FNSTSW_AX (R377). -/
def execFnstswAx (s : State) : Outcome := escape .nonwaiting s storeAxRule

/-- FNCLEX (R374). -/
def execFnclex (s : State) : Outcome := escape .nonwaiting s clearExRule

/-- FNINIT (R375). -/
def execFninit (s : State) : Outcome := escape .nonwaiting s State.fninit

/-- FNENI (R378). -/
def execFneni (s : State) : Outcome := escape .nonwaiting s fun t => t

/-- FNDISI (R379). -/
def execFndisi (s : State) : Outcome := escape .nonwaiting s fun t => t

/-- FNSETPM (R380). -/
def execFnsetpm (s : State) : Outcome := escape .nonwaiting s fun t => t

/-- FNSTENV (R384). -/
def execFnstenv (m : MemOp) (s : State) : Outcome := escape .nonwaiting s (storeEnvRule m)

/-- FLDENV (R385). -/
def execFldenv (m : MemOp) (s : State) : Outcome := escape .waiting s (loadEnvRule m)

/-- FNSAVE (R386). -/
def execFnsave (m : MemOp) (s : State) : Outcome := escape .nonwaiting s (saveRule m)

/-- FRSTOR (R387). -/
def execFrstor (m : MemOp) (s : State) : Outcome := escape .waiting s (restoreRule m)

/-- WAIT (R400): no FPU_ENTRY, no `x87_op`. -/
def execWait (s : State) : Outcome :=
  if s.cr0 &&& 0xA = 0xA then .next (s.raiseCpu .deviceNotAvailable)
  else if s.params.softfloat = true ∧ swES s.sw = true then .next s.report
  else .next (s.charge waitCycles).normal

end Sys2Proof.Machine
end

