-- ==== Sys2Proof/Machine/Special.lean ====
section
/-! DEFINITION. The single-operand and special arithmetic instructions (spec/42_arithmetic.md R294 to R301). -/

namespace Sys2Proof.Machine

/-- An instruction that replaces ST(0) by a function of it: `p` is the precision of its rounding. -/
def unaryRule (f : NumCtx → F80 → Result) (p : State → Nat) (s : State) : State :=
  if s.isEmpty 0 then
    commit { exc := Exc.stackFault, codes := s.codesUndef false, ops := [.write 0 realIndefinite] } s
  else
    let r := f (s.numCtx (p s)) (s.st 0)
    commit { exc := r.exc, codes := s.codesUndef r.c1, ops := [.write 0 r.v] } s

/-- FABS: the sign cleared, for every class (R294). -/
def absResult (_ : NumCtx) (a : F80) : Result := Result.exact (withSign a false)

/-- FCHS: the sign inverted, for every class (R295). -/
def chsResult (_ : NumCtx) (a : F80) : Result := Result.exact (withSign a (!signOf a))

/-- FRNDINT (R297). -/
def rndintResult (c : NumCtx) (a : F80) : Result :=
  if isUnsupported a then Result.invalid
  else if isNan a then nanResult1 a
  else if isInf a || isZero a then Result.exact a
  else
    let r := rndint (rcOf c.cw) (valOf a)
    Result.withDE ⟨pack (signOf a) r.q 0, { pe := r.inexact }, r.up⟩ (isDenormal a)

/-- An instruction that replaces ST(0) by a function of ST(0) and ST(1), rounded to 64 bits. -/
def binaryRule (f : NumCtx → F80 → F80 → Result) (s : State) : State :=
  if s.isEmpty 0 || s.isEmpty 1 then
    commit { exc := Exc.stackFault, codes := s.codesUndef false, ops := [.write 0 realIndefinite] } s
  else
    let r := f (s.numCtx 64) (s.st 0) (s.st 1)
    commit { exc := r.exc, codes := s.codesUndef r.c1, ops := [.write 0 r.v] } s

/-- `trunc(val(b))` (R298). -/
def truncInt (b : Val) : Int :=
  let q : Nat := (rndint .rz b).q
  if b.neg then -(q : Int) else q

/-- FSCALE on operands that are not NaNs and raise no invalid operation (R298). -/
def scaleF (c : NumCtx) (a b : F80) : Result :=
  if isInf b then Result.exact (if signOf b then zeroF80 (signOf a) else infF80 (signOf a))
  else if isZero a || isInf a then Result.exact a
  else
    let x := valOf a
    roundReg c x.neg ⟨x.m, x.e + truncInt (valOf b), false⟩

/-- FSCALE (R298). DE is raised in its special cases too (R168, notes/assumptions/15.md). -/
def scaleResult (c : NumCtx) (a b : F80) : Result :=
  if isUnsupported a || isUnsupported b then Result.invalid
  else if isNan a || isNan b then nanResult2 a b
  else if (isZero a && isInf b && !signOf b) || (isInf a && isInf b && signOf b) then Result.invalid
  else (scaleF c a b).withDE (isDenormal a || isDenormal b)

/-- The exponent and the significand FXTRACT delivers, with the flags it raises (R299). -/
def xtractResult (a : F80) : F80 × F80 × Exc :=
  if isUnsupported a then (realIndefinite, realIndefinite, Exc.invalid)
  else if isNan a then ((nanResult1 a).v, (nanResult1 a).v, (nanResult1 a).exc)
  else if isZero a then (infF80 true, a, { ze := true })
  else if isInf a then (infF80 false, a, Exc.clear)
  else
    let x := valOf a
    let e := floorLog2 x.m x.e
    (pack (decide (e < 0)) e.natAbs 0, pack x.neg x.m (-(Nat.log2 x.m : Int)), Exc.denormalIf (isDenormal a))

/-- An instruction that replaces ST(0) and pushes: the stack tests, underflow first, with the same indefinite for both
(R299, R310, D42). `codes` gives the condition codes for a value of C1. -/
def replacePushFault (codes : Bool → Codes) (c1 : Bool) (s : State) : State :=
  commit { exc := Exc.stackFault, codes := codes c1, ops := [.write 0 realIndefinite, .push realIndefinite] } s

/-- FXTRACT (R299). -/
def xtractRule (s : State) : State :=
  if s.isEmpty 0 then replacePushFault s.codesUndef false s
  else if s.isEmpty 7 then
    let r := xtractResult (s.st 0)
    commit { exc := r.2.2, codes := s.codesUndef false, ops := [.write 0 r.1, .push r.2.1] } s
  else replacePushFault s.codesUndef true s

/-! ## FPREM and FPREM1 (R300, R301) -/

/-- What FPREM does to ST(0), the flags, and the condition codes. -/
structure RemOutcome where
  v : F80
  exc : Exc
  codes : Codes
  deriving DecidableEq, Repr

/-- C2, with the other codes unchanged (notes/assumptions/30.md). -/
def remCodesC2 (d : BitVec 4) : Codes := { c2 := some (d.getLsbD 2) }

/-- C0, C3 and C1 are bits 2, 1 and 0 of the quotient, and C2 is 0 (R300; R42 differs, notes/assumptions/26.md). -/
def remCodesDone (q : Nat) : Codes where
  c0 := some (q.testBit 2)
  c1 := some (q.testBit 0)
  c2 := some false
  c3 := some (q.testBit 1)

/-- C2 is 1 and the others are drawn: the reduction is incomplete (R300). -/
def remCodesPartial (d : BitVec 4) : Codes := { drawnAll d with c2 := some true }

/-- The codes of a reduction. -/
def remCodes (d : BitVec 4) : Option Nat → Codes
  | some q => remCodesDone q
  | none => remCodesPartial d

/-- FPREM_N (R300): 32 to 63. -/
def fpremN (a b : F80) : Nat := 32 + (Config.fpremN a b).toNat

/-- The remainder as a register value: exact, so only an unmasked underflow changes it; a zero takes a's sign (R300,
R301; for a partial reduction by FPREM a DESIGN CHOICE, notes/assumptions/43.md). -/
def remValue (c : NumCtx) (aneg : Bool) (r : Reduction) : F80 × Exc :=
  if r.mag.m = 0 then (zeroF80 aneg, Exc.clear)
  else ((roundReg c r.neg r.mag).v, (roundReg c r.neg r.mag).exc)

/-- FPREM and FPREM1 on non-empty operands, in the order of R300's branches: an infinite a is invalid whatever b is, a zero b
unless a is a NaN (notes/assumptions/16.md). `d` is the draw of the condition codes. -/
def remOutcome (nearest : Bool) (c : NumCtx) (d : BitVec 4) (a b : F80) : RemOutcome :=
  if isUnsupported a || isUnsupported b || isInf a || (isZero b && !isNan a) then
    ⟨realIndefinite, Exc.invalid, remCodesC2 d⟩
  else if isNan a || isNan b then ⟨(nanResult2 a b).v, (nanResult2 a b).exc, remCodesC2 d⟩
  else if isInf b || isZero a then ⟨a, Exc.denormalIf (isDenormal a || isDenormal b), remCodesDone 0⟩
  else
    let r := reduce nearest (fpremN a b) (valOf a) (valOf b)
    let x := remValue c (signOf a) r
    ⟨x.1, (Exc.denormalIf (isDenormal a || isDenormal b)).union x.2, remCodes d r.quot⟩

/-- FPREM and FPREM1 (R300, R301). -/
def remRule (nearest : Bool) (s : State) : State :=
  if s.isEmpty 0 || s.isEmpty 1 then
    commit { exc := Exc.stackFault, codes := s.codesUndef false, ops := [.write 0 realIndefinite] } s
  else
    let r := remOutcome nearest (s.numCtx 64) s.drawn (s.st 0) (s.st 1)
    commit { exc := r.exc, codes := r.codes, c1Suppressed := none, ops := [.write 0 r.v] } s

/-! ## The instructions -/

/-- FABS (R294). -/
def execFabs (s : State) : Outcome := escape .waiting s fun t => unaryRule absResult (fun _ => 64) t.pointers

/-- FCHS (R295). -/
def execFchs (s : State) : Outcome := escape .waiting s fun t => unaryRule chsResult (fun _ => 64) t.pointers

/-- FSQRT (R296). -/
def execFsqrt (s : State) : Outcome := escape .waiting s fun t => unaryRule sqrtResult State.precision t.pointers

/-- FRNDINT (R297). -/
def execFrndint (s : State) : Outcome := escape .waiting s fun t => unaryRule rndintResult (fun _ => 64) t.pointers

/-- FSCALE (R298). -/
def execFscale (s : State) : Outcome := escape .waiting s fun t => binaryRule scaleResult t.pointers

/-- FXTRACT (R299). -/
def execFxtract (s : State) : Outcome := escape .waiting s fun t => xtractRule t.pointers

/-- FPREM (R300). -/
def execFprem (s : State) : Outcome := escape .waiting s fun t => remRule false t.pointers

/-- FPREM1 (R301). -/
def execFprem1 (s : State) : Outcome := escape .waiting s fun t => remRule true t.pointers

end Sys2Proof.Machine
end

