-- ==== Sys2Proof/Machine/Stack.lean ====
section
/-! DEFINITION. Stack management (spec/45_stack.md R350 to R355). -/

namespace Sys2Proof.Machine

/-- What FXCH exchanges: an empty register counts as real indefinite (R350, notes/assumptions/38.md). -/
def filledSt (s : State) (i : BitVec 3) : F80 := if s.isEmpty i then realIndefinite else s.st i

/-- FXCH ST(i) (R350). -/
def exchangeRule (i : BitVec 3) (s : State) : State :=
  commit
    { exc := if s.isEmpty 0 || s.isEmpty i then Exc.stackFault else Exc.clear
      codes := s.codesUndef false
      ops := [.write 0 (filledSt s i), .write i (filledSt s 0)] } s

/-- SW with C1 cleared and the other codes drawn, and the counter moved on (R351). -/
def State.clearC1 (s : State) : State :=
  { s with sw := writeCodes s.sw (s.codesUndef false), draws := s.draws + 1 }

/-- FINCSTP and FDECSTP: TOP moves by `delta` modulo 8, no tag or register changes (R351, R352). -/
def moveTopRule (delta : BitVec 3) (s : State) : State := (s.withTop (s.top + delta)).clearC1

/-- FFREE (R353). -/
def freeRule (i : BitVec 3) (s : State) : State := (s.free i).drawCodes

/-- FFREEP (R354). -/
def freePopRule (i : BitVec 3) (s : State) : State := (s.free i).pop.drawCodes

/-- FXCH_st (R350). -/
def execFxchSt (i : BitVec 3) (s : State) : Outcome := escape .waiting s fun t => exchangeRule i t.pointers

/-- FXCH4_st (R350). -/
def execFxch4St (i : BitVec 3) (s : State) : Outcome := escape .waiting s fun t => exchangeRule i t.pointers

/-- FXCH7_st (R350). -/
def execFxch7St (i : BitVec 3) (s : State) : Outcome := escape .waiting s fun t => exchangeRule i t.pointers

/-- FINCSTP (R351). -/
def execFincstp (s : State) : Outcome := escape .waiting s fun t => moveTopRule 1 t.pointers

/-- FDECSTP (R352). -/
def execFdecstp (s : State) : Outcome := escape .waiting s fun t => moveTopRule 7 t.pointers

/-- FFREE (R353). -/
def execFfree (i : BitVec 3) (s : State) : Outcome := escape .waiting s fun t => freeRule i t.pointers

/-- FFREEP (R354). -/
def execFfreep (i : BitVec 3) (s : State) : Outcome := escape .waiting s fun t => freePopRule i t.pointers

/-- FNOP (R355). -/
def execFnop (s : State) : Outcome := escape .waiting s fun t => t.pointers.drawCodes

end Sys2Proof.Machine
end

