-- ==== Sys2Proof/Machine/Trans.lean ====
section
/-! DEFINITION. The functions of `TRANS` (spec/43_transcendental.md R305, R306). The spec requires the exact result where
it is representable and otherwise one of its two neighbours. The model computes the exact real to a relative error below
one part in 2^195 by series in fixed-point integers, and leaves the choice of the neighbour free (`Config.transAway`).
The error bound is argued in notes/assumptions/17.md and not proved. -/

namespace Sys2Proof.Machine

/-! ## Fixed point

A fixed-point number x stands for `x / 2^512`. -/

/-- The number of fraction bits. -/
def fxBits : Nat := 512

/-- One, in fixed point. -/
def fxOne : Nat := 2 ^ 512

/-- The product of two fixed-point numbers, truncated. -/
def fxMul (a b : Nat) : Nat := (a * b) >>> 512

/-- The quotient of two fixed-point numbers, truncated. -/
def fxDiv (a b : Nat) : Nat := (a <<< 512) / b

/-- `floor(π * 2^640)`. -/
def piBits : Nat :=
  0x3243f6a8885a308d313198a2e03707344a4093822299f31d0082efa98ec4e6c89452821e638d01377be5466cf34e90c6cc0ac29b7c97c50dd3f84d5b5b54709179216d5d98979fb1bd1310ba698dfb5ac

/-- `floor(ln 2 * 2^640)`. -/
def ln2Bits : Nat :=
  0xb17217f7d1cf79abc9e3b39803f2f6af40f343267298b62d8a0d175b8baafa2be7b876206debac98559552fb4afa1b10ed2eae35c138214427573b291169b8253e96ca16224ae8c51acbda11317c387e

/-- π and ln 2 in fixed point. -/
def fxPi : Nat := piBits >>> 128
def fxLn2 : Nat := ln2Bits >>> 128

/-- The magnitude `m * 2^e` in fixed point, truncated. -/
def fxOf (m : Nat) (e : Int) : Nat :=
  if 0 ≤ e + 512 then m <<< (e + 512).toNat else m >>> (-(e + 512)).toNat

/-! ## Series -/

/-- `Σ t * z^(2j) / (2j + k)` for `j` from 0: with t = z and k = 1 it is atanh z. `z2` is z squared. -/
def atanhSum (z2 : Nat) : Nat → Nat → Nat → Nat
  | 0, _, _ => 0
  | fuel + 1, t, k => t / k + atanhSum z2 fuel (fxMul t z2) (k + 2)

/-- `ln((1 + z) / (1 - z)) = 2 * atanh z`, for z at most 1/3. -/
def fxLnRatio (z : Nat) : Nat := 2 * atanhSum (fxMul z z) 170 z 1

/-- `Σ s^j * t * x^j / (k * (k + 1) * …)` for `j` from 0: with t = x and k = 2 it is `e^x - 1` for s = 1 and `1 - e^(-x)` for
s = -1. -/
def expSum (x : Nat) (s : Int) : Nat → Nat → Nat → Int
  | 0, _, _ => 0
  | fuel + 1, t, k => t + s * expSum x s fuel (fxMul t x / k) (k + 1)

/-- `Σ (-1)^j * t * x^(2j) / (k * (k + 1) * …)` for `j` from 0: with t = x and k = 2 it is sin x, with t = 1 and k = 1 it is
cos x. `x2` is x squared. -/
def trigSum (x2 : Nat) : Nat → Nat → Nat → Int
  | 0, _, _ => 0
  | fuel + 1, t, k => t - trigSum x2 fuel (fxMul t x2 / (k * (k + 1))) (k + 2)

/-- sin and cos of a fixed-point number in [0, π/2]. -/
def fxSin (x : Nat) : Int := trigSum (fxMul x x) 60 x 2
def fxCos (x : Nat) : Int := trigSum (fxMul x x) 60 fxOne 1

/-- Euler's series for the arc tangent: `Σ t * Π (2j / (2j + 1)) * u^j`, with `u = a^2 / (1 + a^2)`, from term k. -/
def eulerSum (u : Nat) : Nat → Nat → Nat → Nat
  | 0, _, _ => 0
  | fuel + 1, t, k => t + eulerSum u fuel (fxMul t u * (2 * k) / (2 * k + 1)) (k + 1)

/-- arctan of a fixed-point number in [0, 1]. -/
def fxAtan (a : Nat) : Nat :=
  let a2 := fxMul a a
  let d := fxOne + a2
  eulerSum (fxDiv a2 d) 540 (fxDiv a d) 1

/-! ## The exact results -/

/-- A signed real result. -/
structure Real2 where
  neg : Bool
  mag : Mag
  deriving DecidableEq, Repr

/-- The magnitude `v * 2^e` computed with a relative error below one part in 2^256, as a lower bound with the rest in the
sticky bit. -/
def approx (v : Nat) (e : Int) : Mag := ⟨v - (v >>> 256), e, true⟩

/-- A magnitude just above `m * 2^e`, by less than one part in 2^200. -/
def justAbove (m : Nat) (e : Int) : Mag := ⟨m <<< 256, e - 256, true⟩

/-- A magnitude just below `m * 2^e`, by less than one part in 2^200. -/
def justBelow (m : Nat) (e : Int) : Mag := ⟨(m <<< 190) - 1, e - 190, true⟩

/-- `2^x - 1` for a nonzero x in [-1, 1] (R307). Exact for x = 1 and x = -1. -/
def exp2m1 (x : Val) : Real2 :=
  let ex := floorLog2 x.m x.e
  if ex = 0 then ⟨x.neg, if x.neg then ⟨1, -1, false⟩ else ⟨1, 0, false⟩⟩
  else if ex < -200 then ⟨x.neg, approx (x.m * ln2Bits) (x.e - 640)⟩
  else
    let t := (fxOf x.m x.e * ln2Bits) >>> 640
    ⟨x.neg, approx (expSum t (if x.neg then -1 else 1) 100 t 2).natAbs (-512)⟩

/-- `log2 x` for a positive x (R308). Exact where x is a power of two. -/
def log2Of (x : Val) : Real2 :=
  let n := floorLog2 x.m x.e
  if x.m = 2 ^ Nat.log2 x.m then ⟨decide (n < 0), ⟨n.natAbs, 0, false⟩⟩
  else
    let f := x.m <<< (512 - Nat.log2 x.m)
    let l : Int := n * fxOne + fxDiv (fxLnRatio (fxDiv (f - fxOne) (f + fxOne))) fxLn2
    ⟨decide (l < 0), approx l.natAbs (-512)⟩

/-- `log2(x + 1)` for a nonzero x of magnitude below 1 - √2/2 (R309). -/
def log2p1Of (x : Val) : Real2 :=
  if floorLog2 x.m x.e < -200 then ⟨x.neg, approx ((x.m <<< 1152) / ln2Bits) (x.e - 512)⟩
  else
    let a := fxOf x.m x.e
    let z := if x.neg then fxDiv a (2 * fxOne - a) else fxDiv a (2 * fxOne + a)
    ⟨x.neg, approx (fxDiv (fxLnRatio z) fxLn2) (-512)⟩

/-- The product of a nonzero value y and a nonzero real. -/
def timesVal (y : Val) (r : Real2) : Real2 := ⟨y.neg != r.neg, ⟨y.m * r.mag.m, y.e + r.mag.e, r.mag.sticky⟩⟩

/-- The magnitude of x, at least 2^-100 and below 2^63, reduced by multiples of π/2: the remainder in fixed point, and the
quotient modulo 4 (R306). -/
def reducePi (x : Val) : Nat × Nat :=
  let a := fxOf x.m x.e <<< 128
  let half := piBits >>> 1
  let n := (2 * a) / piBits
  ((a - n * half) >>> 128, n % 4)

/-- The magnitude and sign of a signed fixed-point number. -/
def ofFx (v : Int) : Real2 := ⟨decide (v < 0), approx v.natAbs (-512)⟩

/-- `sin x` for a nonzero x of magnitude below 2^63. -/
def sinOf (x : Val) : Real2 :=
  if floorLog2 x.m x.e < -100 then ⟨x.neg, justBelow x.m x.e⟩
  else
    let r := reducePi x
    let s := match r.2 with
      | 0 => fxSin r.1
      | 1 => fxCos r.1
      | 2 => -fxSin r.1
      | _ => -fxCos r.1
    let y := ofFx s
    ⟨x.neg != y.neg, y.mag⟩

/-- `cos x` for a nonzero x of magnitude below 2^63. -/
def cosOf (x : Val) : Real2 :=
  if floorLog2 x.m x.e < -100 then ⟨false, justBelow 1 0⟩
  else
    let r := reducePi x
    ofFx (match r.2 with
      | 0 => fxCos r.1
      | 1 => -fxSin r.1
      | 2 => -fxCos r.1
      | _ => fxSin r.1)

/-- `tan x` for a nonzero x of magnitude below 2^63. -/
def tanOf (x : Val) : Real2 :=
  if floorLog2 x.m x.e < -100 then ⟨x.neg, justAbove x.m x.e⟩
  else
    let r := reducePi x
    let s := (fxSin r.1).natAbs
    let c := (fxCos r.1).natAbs
    if r.2 % 2 = 0 then ⟨x.neg, approx (fxDiv s c) (-512)⟩ else ⟨!x.neg, approx (fxDiv c s) (-512)⟩

/-- The multiple `k * π / 4`. -/
def quarterPi (k : Nat) : Mag := approx (k * piBits) (-642)

/-- The angle of the point (x, y), both nonzero (R311). -/
def atan2Of (y x : Val) : Real2 :=
  let d := floorLog2 y.m y.e - floorLog2 x.m x.e
  if d < -100 ∧ x.neg = false then
    let n := y.m <<< 256
    ⟨y.neg, ⟨if n % x.m = 0 then n / x.m - 1 else n / x.m, y.e - x.e - 256, true⟩⟩
  else
    let t : Nat :=
      if d < 0 then fxAtan (fxOf ((y.m <<< 1024) / x.m) (y.e - x.e - 1024))
      else
        let g := min y.e x.e
        let ny := y.m <<< (y.e - g).toNat
        let nx := x.m <<< (x.e - g).toNat
        if ny ≤ nx then fxAtan ((ny <<< 512) / nx) else fxPi / 2 - fxAtan ((nx <<< 512) / ny)
    ⟨y.neg, approx (if x.neg then fxPi - t else t) (-512)⟩

/-! ## Delivery (R305) -/

/-- The direction of rounding that delivers the smaller or the larger neighbour in magnitude. -/
def neighbour (away neg : Bool) : RC := if away then (if neg then .rd else .ru) else .rz

/-- The result of the function f at operands a and b: exact where representable, else one of the two neighbours, with the
flags of R160 to R162 (which functions can raise UE: notes/assumptions/39.md; which rounding decides OE and UE:
notes/assumptions/40.md). The operands are given in their canonical patterns, so that equal values give equal results. -/
def transResult (f : TransFn) (c : NumCtx) (a b : Val) (y : Real2) : Result :=
  (deliverWith c.round (neighbour (Config.transAway f (packVal a) (packVal b) (rcOf c.cw)) y.neg) y.neg y.mag).toResult
    y.neg c.free

end Sys2Proof.Machine
end

