-- ==== Sys2Proof/Machine/Transcendental.lean ====
section
/-! DEFINITION. The transcendental instructions (spec/43_transcendental.md R305 to R314). -/

namespace Sys2Proof.Machine

/-- What stands for a result that is out of range: the result, its PE and its C1 are all drawn (R307, R309,
notes/assumptions/18.md). -/
structure Draw where
  v : F80
  pe : Bool
  c1 : Bool
  deriving DecidableEq, Repr

/-- The draw as a result. -/
def Draw.result (d : Draw) : Result := ⟨d.v, { pe := d.pe }, d.c1⟩

/-- The draw of a state. -/
def State.draw (s : State) : Draw := ⟨Config.freeResult s.draws, Config.freePE s.draws, Config.freeC1 s.draws⟩

/-- The value 0, which stands for the second operand of a function of one. -/
def noVal : Val := ⟨false, 0, 0⟩

/-- `|x| ≤ 1`, for a nonzero x. -/
def atMostOne (x : Val) : Bool :=
  decide (floorLog2 x.m x.e < 0) || (decide (floorLog2 x.m x.e = 0) && x.m == 2 ^ Nat.log2 x.m)

/-- `x < 1`, for a positive x. -/
def belowOne (x : Val) : Bool := decide (floorLog2 x.m x.e < 0)

/-- `x = 1`, for a positive x. -/
def isOne (x : Val) : Bool := decide (floorLog2 x.m x.e = 0) && x.m == 2 ^ Nat.log2 x.m

/-- `|x| < 1 - √2/2`, for a nonzero x: `|x| < 1` and `2 * (1 - |x|)^2 > 1` (R309). -/
def inLog2p1Range (x : Val) : Bool :=
  decide (floorLog2 x.m x.e < -2) ||
    (decide (floorLog2 x.m x.e = -2) &&
      let one := 2 ^ (Nat.log2 x.m + 2)
      decide (one * one < 2 * ((one - x.m) * (one - x.m))))

/-! ## F2XM1 (R307) -/

/-- F2XM1 (R307). -/
def exp2m1Result (d : Draw) (c : NumCtx) (x : F80) : Result :=
  if isUnsupported x then Result.invalid
  else if isNan x then nanResult1 x
  else if isZero x then Result.exact x
  else if isInf x then Result.exact (if signOf x then oneF80 true else x)
  else
    let v := valOf x
    (if atMostOne v then transResult .exp2m1 c v noVal (exp2m1 v) else d.result).withDE (isDenormal x)

/-! ## FYL2X and FYL2XP1 (R308, R309) -/

/-- The classes 1 and 2 of an instruction of two operands, then its own cases, with DE where they end in no invalid
operation and no zero divide (R168, R175). -/
def twoOperandResult (x y : F80) (rest : Result) : Result :=
  if isUnsupported x || isUnsupported y then Result.invalid
  else if isNan x || isNan y then nanResult2 x y
  else if rest.exc.ie || rest.exc.ze then rest
  else rest.withDE (isDenormal x || isDenormal y)

/-- The special cases of FYL2X, in the order of R308, and the general case (notes/assumptions/15.md). -/
def yl2xF (c : NumCtx) (x y : F80) : Result :=
  let vx := valOf x
  if signOf x && !isZero x then Result.invalid
  else if isZero x then
    if isZero y then Result.invalid
    else if isInf y then Result.exact (infF80 (!signOf y))
    else ⟨infF80 (!signOf y), { ze := true }, false⟩
  else if isInf x then
    if isZero y then Result.invalid else Result.exact (infF80 (signOf y))
  else if isOne vx then
    if isInf y then Result.invalid else Result.exact (zeroF80 (signOf y))
  else if isInf y then Result.exact (infF80 (signOf y != belowOne vx))
  else if isZero y then Result.exact (zeroF80 (signOf y != belowOne vx))
  else transResult .log2 c vx (valOf y) (timesVal (valOf y) (log2Of vx))

/-- FYL2X (R308). -/
def yl2xResult (c : NumCtx) (x y : F80) : Result := twoOperandResult x y (yl2xF c x y)

/-- The special cases of FYL2XP1 and the general case (R309). Out of range a draw results, whatever y is; an infinite y with
an x in range gives an infinity (notes/assumptions/19.md). -/
def yl2xp1F (d : Draw) (c : NumCtx) (x y : F80) : Result :=
  if isZero x then
    if isInf y then Result.invalid else Result.exact (zeroF80 (signOf x != signOf y))
  else if isInf x then d.result
  else
    let vx := valOf x
    if !inLog2p1Range vx then d.result
    else if isZero y then Result.exact (zeroF80 (signOf x != signOf y))
    else if isInf y then Result.exact (infF80 (signOf x != signOf y))
    else transResult .log2p1 c vx (valOf y) (timesVal (valOf y) (log2p1Of vx))

/-- FYL2XP1 (R309). -/
def yl2xp1Result (d : Draw) (c : NumCtx) (x y : F80) : Result := twoOperandResult x y (yl2xp1F d c x y)

/-! ## FPATAN (R311) -/

/-- `k * π / 4` with the given sign, rounded under CW.RC (R311). -/
def piMultiple (c : NumCtx) (neg : Bool) (k : Nat) : Result := roundReg c neg (quarterPi k)

/-- FPATAN on operands that are FINITE or INFINITY (R311). "None raises an exception other than PE": only its general case
raises DE (notes/assumptions/38.md). -/
def patanF (c : NumCtx) (x y : F80) : Result :=
  let sy := signOf y
  if isZero y then (if signOf x then piMultiple c sy 4 else Result.exact y)
  else if isInf y then
    if isInf x then piMultiple c sy (if signOf x then 3 else 1) else piMultiple c sy 2
  else if isInf x then (if signOf x then piMultiple c sy 4 else Result.exact (zeroF80 sy))
  else if isZero x then piMultiple c sy 2
  else
    (transResult .atan2 c (valOf y) (valOf x) (atan2Of (valOf y) (valOf x))).withDE (isDenormal x || isDenormal y)

/-- FPATAN (R311). -/
def patanResult (c : NumCtx) (x y : F80) : Result :=
  if isUnsupported x || isUnsupported y then Result.invalid
  else if isNan x || isNan y then nanResult2 x y
  else patanF c x y

/-- An instruction on x = ST(0) and y = ST(1) whose result goes to ST(1), then a pop (R308). -/
def replacePopRule (f : NumCtx → F80 → F80 → Result) (s : State) : State :=
  if s.isEmpty 0 || s.isEmpty 1 then
    commit { exc := Exc.stackFault, codes := s.codesUndef false, ops := [.write 1 realIndefinite, .pop] } s
  else
    let r := f (s.numCtx 64) (s.st 0) (s.st 1)
    commit { exc := r.exc, codes := s.codesUndef r.c1, ops := [.write 1 r.v, .pop] } s

/-! ## FSIN, FCOS, FPTAN and FSINCOS (R306, R310, R312 to R314) -/

/-- `|val(x)| ≥ 2^63`, for a FINITE x (R306). -/
def outOfTrigRange (x : F80) : Bool :=
  isFinite x && !isZero x && decide (63 ≤ floorLog2 (valOf x).m (valOf x).e)

/-- The condition codes of a trigonometric instruction: C2 as given, C1 as given, the others drawn (R306). -/
def State.trigCodes (s : State) (c2 c1 : Bool) : Codes := { s.codesUndef c1 with c2 := some c2 }

/-- The operand is out of range: C2 is 1, C1 is 0, and nothing else but the drawn codes changes (R306). -/
def trigOutOfRange (s : State) : State :=
  { s with sw := writeCodes s.sw (s.trigCodes true false), draws := s.draws + 1 }

/-- FSIN and FCOS of a nonzero FINITE operand in range. -/
def sinF (c : NumCtx) (x : Val) : Result := transResult .sin c x noVal (sinOf x)
def cosF (c : NumCtx) (x : Val) : Result := transResult .cos c x noVal (cosOf x)
def tanF (c : NumCtx) (x : Val) : Result := transResult .tan c x noVal (tanOf x)

/-- FSIN of an operand that is not out of range (R312). -/
def sinResult (c : NumCtx) (x : F80) : Result :=
  if isUnsupported x || isInf x then Result.invalid
  else if isNan x then nanResult1 x
  else if isZero x then Result.exact x
  else (sinF c (valOf x)).withDE (isDenormal x)

/-- FCOS of an operand that is not out of range (R313). -/
def cosResult (c : NumCtx) (x : F80) : Result :=
  if isUnsupported x || isInf x then Result.invalid
  else if isNan x then nanResult1 x
  else if isZero x then Result.exact (oneF80 false)
  else (cosF c (valOf x)).withDE (isDenormal x)

/-- FSIN and FCOS (R312, R313). -/
def trigRule (f : NumCtx → F80 → Result) (s : State) : State :=
  if s.isEmpty 0 then
    commit { exc := Exc.stackFault, codes := s.trigCodes false false, ops := [.write 0 realIndefinite] } s
  else if outOfTrigRange (s.st 0) then trigOutOfRange s
  else
    let r := f (s.numCtx 64) (s.st 0)
    commit { exc := r.exc, codes := s.trigCodes false r.c1, ops := [.write 0 r.v] } s

/-- The two results of FPTAN and FSINCOS: what ST(0) receives, what is pushed, the flags, and C1. -/
structure PairResult where
  first : F80
  second : F80
  exc : Exc
  c1 : Bool
  deriving DecidableEq, Repr

/-- The same result for both (D42). -/
def PairResult.both (r : Result) : PairResult := ⟨r.v, r.v, r.exc, r.c1⟩

/-- FPTAN of an operand that is not out of range (R310). -/
def ptanResult (c : NumCtx) (x : F80) : PairResult :=
  if isUnsupported x || isInf x then .both Result.invalid
  else if isNan x then .both (nanResult1 x)
  else if isZero x then ⟨x, oneF80 false, Exc.clear, false⟩
  else
    let t := (tanF c (valOf x)).withDE (isDenormal x)
    ⟨t.v, oneF80 false, t.exc, t.c1⟩

/-- FSINCOS of an operand that is not out of range: the flags of either result, C1 from the sine (R314,
notes/assumptions/33.md). -/
def sincosResult (c : NumCtx) (x : F80) : PairResult :=
  if isUnsupported x || isInf x then .both Result.invalid
  else if isNan x then .both (nanResult1 x)
  else if isZero x then ⟨x, oneF80 false, Exc.clear, false⟩
  else
    let a := (sinF c (valOf x)).withDE (isDenormal x)
    let b := cosF c (valOf x)
    ⟨a.v, b.v, a.exc.union b.exc, a.c1⟩

/-- FPTAN and FSINCOS: the stack tests, underflow first, then the range, then both results (R310, R314). -/
def trigPairRule (f : NumCtx → F80 → PairResult) (s : State) : State :=
  if s.isEmpty 0 then replacePushFault (s.trigCodes false) false s
  else if !s.isEmpty 7 then replacePushFault (s.trigCodes false) true s
  else if outOfTrigRange (s.st 0) then trigOutOfRange s
  else
    let r := f (s.numCtx 64) (s.st 0)
    commit { exc := r.exc, codes := s.trigCodes false r.c1, ops := [.write 0 r.first, .push r.second] } s

/-! ## The instructions -/

/-- F2XM1 (R307). -/
def execF2xm1 (s : State) : Outcome :=
  escape .waiting s fun t => unaryRule (exp2m1Result t.draw) (fun _ => 64) t.pointers

/-- FYL2X (R308). -/
def execFyl2x (s : State) : Outcome := escape .waiting s fun t => replacePopRule yl2xResult t.pointers

/-- FYL2XP1 (R309). -/
def execFyl2xp1 (s : State) : Outcome := escape .waiting s fun t => replacePopRule (yl2xp1Result t.draw) t.pointers

/-- FPTAN (R310). -/
def execFptan (s : State) : Outcome := escape .waiting s fun t => trigPairRule ptanResult t.pointers

/-- FPATAN (R311). -/
def execFpatan (s : State) : Outcome := escape .waiting s fun t => replacePopRule patanResult t.pointers

/-- FSIN (R312). -/
def execFsin (s : State) : Outcome := escape .waiting s fun t => trigRule sinResult t.pointers

/-- FCOS (R313). -/
def execFcos (s : State) : Outcome := escape .waiting s fun t => trigRule cosResult t.pointers

/-- FSINCOS (R314). -/
def execFsincos (s : State) : Outcome := escape .waiting s fun t => trigPairRule sincosResult t.pointers

end Sys2Proof.Machine
end

