-- ==== Sys2Proof/Machine/Dispatch.lean ====
section
/-! DEFINITION. The meaning of each instruction: one arm for each constructor of `Instr`. -/

namespace Sys2Proof.Machine

/-- What an instruction does in a state whose inputs the CPU has supplied (spec/10_state.md R55). -/
def exec (i : Instr) (s : State) : Host.Outcome State Fault Refusal :=
  match i with
  | .fldM32fp m => Sys2Proof.Machine.execFldM32fp m s
  | .fldM64fp m => Sys2Proof.Machine.execFldM64fp m s
  | .fldM80fp m => Sys2Proof.Machine.execFldM80fp m s
  | .fldSt k => Sys2Proof.Machine.execFldSt k s
  | .fildM16int m => Sys2Proof.Machine.execFildM16int m s
  | .fildM32int m => Sys2Proof.Machine.execFildM32int m s
  | .fildM64int m => Sys2Proof.Machine.execFildM64int m s
  | .fbld m => Sys2Proof.Machine.execFbld m s
  | .fstM32fp m => Sys2Proof.Machine.execFstM32fp m s
  | .fstM64fp m => Sys2Proof.Machine.execFstM64fp m s
  | .fstSt k => Sys2Proof.Machine.execFstSt k s
  | .fstpM32fp m => Sys2Proof.Machine.execFstpM32fp m s
  | .fstpM64fp m => Sys2Proof.Machine.execFstpM64fp m s
  | .fstpM80fp m => Sys2Proof.Machine.execFstpM80fp m s
  | .fstpSt k => Sys2Proof.Machine.execFstpSt k s
  | .fstp1St k => Sys2Proof.Machine.execFstp1St k s
  | .fstp8St k => Sys2Proof.Machine.execFstp8St k s
  | .fstp9St k => Sys2Proof.Machine.execFstp9St k s
  | .fistM16int m => Sys2Proof.Machine.execFistM16int m s
  | .fistM32int m => Sys2Proof.Machine.execFistM32int m s
  | .fistpM16int m => Sys2Proof.Machine.execFistpM16int m s
  | .fistpM32int m => Sys2Proof.Machine.execFistpM32int m s
  | .fistpM64int m => Sys2Proof.Machine.execFistpM64int m s
  | .fbstp m => Sys2Proof.Machine.execFbstp m s
  | .fld1 => Sys2Proof.Machine.execFld1 s
  | .fldl2t => Sys2Proof.Machine.execFldl2t s
  | .fldl2e => Sys2Proof.Machine.execFldl2e s
  | .fldpi => Sys2Proof.Machine.execFldpi s
  | .fldlg2 => Sys2Proof.Machine.execFldlg2 s
  | .fldln2 => Sys2Proof.Machine.execFldln2 s
  | .fldz => Sys2Proof.Machine.execFldz s
  | .fcmovb k => Sys2Proof.Machine.execFcmovb k s
  | .fcmove k => Sys2Proof.Machine.execFcmove k s
  | .fcmovbe k => Sys2Proof.Machine.execFcmovbe k s
  | .fcmovu k => Sys2Proof.Machine.execFcmovu k s
  | .fcmovnb k => Sys2Proof.Machine.execFcmovnb k s
  | .fcmovne k => Sys2Proof.Machine.execFcmovne k s
  | .fcmovnbe k => Sys2Proof.Machine.execFcmovnbe k s
  | .fcmovnu k => Sys2Proof.Machine.execFcmovnu k s
  | .faddM32fp m => Sys2Proof.Machine.execFaddM32fp m s
  | .faddM64fp m => Sys2Proof.Machine.execFaddM64fp m s
  | .faddSt0Sti k => Sys2Proof.Machine.execFaddSt0Sti k s
  | .faddStiSt0 k => Sys2Proof.Machine.execFaddStiSt0 k s
  | .faddp k => Sys2Proof.Machine.execFaddp k s
  | .fiaddM32int m => Sys2Proof.Machine.execFiaddM32int m s
  | .fiaddM16int m => Sys2Proof.Machine.execFiaddM16int m s
  | .fmulM32fp m => Sys2Proof.Machine.execFmulM32fp m s
  | .fmulM64fp m => Sys2Proof.Machine.execFmulM64fp m s
  | .fmulSt0Sti k => Sys2Proof.Machine.execFmulSt0Sti k s
  | .fmulStiSt0 k => Sys2Proof.Machine.execFmulStiSt0 k s
  | .fmulp k => Sys2Proof.Machine.execFmulp k s
  | .fimulM32int m => Sys2Proof.Machine.execFimulM32int m s
  | .fimulM16int m => Sys2Proof.Machine.execFimulM16int m s
  | .fsubM32fp m => Sys2Proof.Machine.execFsubM32fp m s
  | .fsubM64fp m => Sys2Proof.Machine.execFsubM64fp m s
  | .fsubSt0Sti k => Sys2Proof.Machine.execFsubSt0Sti k s
  | .fsubStiSt0 k => Sys2Proof.Machine.execFsubStiSt0 k s
  | .fsubp k => Sys2Proof.Machine.execFsubp k s
  | .fisubM32int m => Sys2Proof.Machine.execFisubM32int m s
  | .fisubM16int m => Sys2Proof.Machine.execFisubM16int m s
  | .fsubrM32fp m => Sys2Proof.Machine.execFsubrM32fp m s
  | .fsubrM64fp m => Sys2Proof.Machine.execFsubrM64fp m s
  | .fsubrSt0Sti k => Sys2Proof.Machine.execFsubrSt0Sti k s
  | .fsubrStiSt0 k => Sys2Proof.Machine.execFsubrStiSt0 k s
  | .fsubrp k => Sys2Proof.Machine.execFsubrp k s
  | .fisubrM32int m => Sys2Proof.Machine.execFisubrM32int m s
  | .fisubrM16int m => Sys2Proof.Machine.execFisubrM16int m s
  | .fdivM32fp m => Sys2Proof.Machine.execFdivM32fp m s
  | .fdivM64fp m => Sys2Proof.Machine.execFdivM64fp m s
  | .fdivSt0Sti k => Sys2Proof.Machine.execFdivSt0Sti k s
  | .fdivStiSt0 k => Sys2Proof.Machine.execFdivStiSt0 k s
  | .fdivp k => Sys2Proof.Machine.execFdivp k s
  | .fidivM32int m => Sys2Proof.Machine.execFidivM32int m s
  | .fidivM16int m => Sys2Proof.Machine.execFidivM16int m s
  | .fdivrM32fp m => Sys2Proof.Machine.execFdivrM32fp m s
  | .fdivrM64fp m => Sys2Proof.Machine.execFdivrM64fp m s
  | .fdivrSt0Sti k => Sys2Proof.Machine.execFdivrSt0Sti k s
  | .fdivrStiSt0 k => Sys2Proof.Machine.execFdivrStiSt0 k s
  | .fdivrp k => Sys2Proof.Machine.execFdivrp k s
  | .fidivrM32int m => Sys2Proof.Machine.execFidivrM32int m s
  | .fidivrM16int m => Sys2Proof.Machine.execFidivrM16int m s
  | .fabs => Sys2Proof.Machine.execFabs s
  | .fchs => Sys2Proof.Machine.execFchs s
  | .fsqrt => Sys2Proof.Machine.execFsqrt s
  | .frndint => Sys2Proof.Machine.execFrndint s
  | .fscale => Sys2Proof.Machine.execFscale s
  | .fxtract => Sys2Proof.Machine.execFxtract s
  | .fprem => Sys2Proof.Machine.execFprem s
  | .fprem1 => Sys2Proof.Machine.execFprem1 s
  | .f2xm1 => Sys2Proof.Machine.execF2xm1 s
  | .fyl2x => Sys2Proof.Machine.execFyl2x s
  | .fyl2xp1 => Sys2Proof.Machine.execFyl2xp1 s
  | .fptan => Sys2Proof.Machine.execFptan s
  | .fpatan => Sys2Proof.Machine.execFpatan s
  | .fsin => Sys2Proof.Machine.execFsin s
  | .fcos => Sys2Proof.Machine.execFcos s
  | .fsincos => Sys2Proof.Machine.execFsincos s
  | .fcomM32fp m => Sys2Proof.Machine.execFcomM32fp m s
  | .fcomM64fp m => Sys2Proof.Machine.execFcomM64fp m s
  | .fcomSt k => Sys2Proof.Machine.execFcomSt k s
  | .fcom2St k => Sys2Proof.Machine.execFcom2St k s
  | .fcompM32fp m => Sys2Proof.Machine.execFcompM32fp m s
  | .fcompM64fp m => Sys2Proof.Machine.execFcompM64fp m s
  | .fcompSt k => Sys2Proof.Machine.execFcompSt k s
  | .fcomp3St k => Sys2Proof.Machine.execFcomp3St k s
  | .fcomp5St k => Sys2Proof.Machine.execFcomp5St k s
  | .fcompp => Sys2Proof.Machine.execFcompp s
  | .fucom k => Sys2Proof.Machine.execFucom k s
  | .fucomp k => Sys2Proof.Machine.execFucomp k s
  | .fucompp => Sys2Proof.Machine.execFucompp s
  | .fcomi k => Sys2Proof.Machine.execFcomi k s
  | .fcomip k => Sys2Proof.Machine.execFcomip k s
  | .fucomi k => Sys2Proof.Machine.execFucomi k s
  | .fucomip k => Sys2Proof.Machine.execFucomip k s
  | .fxam => Sys2Proof.Machine.execFxam s
  | .ftst => Sys2Proof.Machine.execFtst s
  | .ficomM16int m => Sys2Proof.Machine.execFicomM16int m s
  | .ficomM32int m => Sys2Proof.Machine.execFicomM32int m s
  | .ficompM16int m => Sys2Proof.Machine.execFicompM16int m s
  | .ficompM32int m => Sys2Proof.Machine.execFicompM32int m s
  | .fxchSt k => Sys2Proof.Machine.execFxchSt k s
  | .fxch4St k => Sys2Proof.Machine.execFxch4St k s
  | .fxch7St k => Sys2Proof.Machine.execFxch7St k s
  | .fincstp => Sys2Proof.Machine.execFincstp s
  | .fdecstp => Sys2Proof.Machine.execFdecstp s
  | .ffree k => Sys2Proof.Machine.execFfree k s
  | .ffreep k => Sys2Proof.Machine.execFfreep k s
  | .fnop => Sys2Proof.Machine.execFnop s
  | .fnstcw m => Sys2Proof.Machine.execFnstcw m s
  | .fldcw m => Sys2Proof.Machine.execFldcw m s
  | .fnstswM2byte m => Sys2Proof.Machine.execFnstswM2byte m s
  | .fnstswAx => Sys2Proof.Machine.execFnstswAx s
  | .fnclex => Sys2Proof.Machine.execFnclex s
  | .fninit => Sys2Proof.Machine.execFninit s
  | .fneni => Sys2Proof.Machine.execFneni s
  | .fndisi => Sys2Proof.Machine.execFndisi s
  | .fnsetpm => Sys2Proof.Machine.execFnsetpm s
  | .fnstenv m => Sys2Proof.Machine.execFnstenv m s
  | .fldenv m => Sys2Proof.Machine.execFldenv m s
  | .fnsave m => Sys2Proof.Machine.execFnsave m s
  | .frstor m => Sys2Proof.Machine.execFrstor m s
  | .wait => Sys2Proof.Machine.execWait s

end Sys2Proof.Machine
end

