-- ==== Sys2Proof/WellFormed.lean ====
section
/-! DEFINITION. Which instructions have an encoding: the memory operand must be a row of spec/30_encoding.md R120. -/

namespace Sys2Proof

/-- The memory operands R120's tables hold: mod 00 gives BP and EBP no form of their own, and ESP as a base takes a SIB. -/
def MemOp.wf : MemOp → Bool
  | .abs16 _ => true
  | .ind16 b d => !(b == .bp && d == .none)
  | .abs32 _ => true
  | .ind32 b d => b != .esp && !(b == .ebp && d == .none)
  | .sib _ _ base d => !(base == .ebp && d == .none)
  | .sibAbs _ _ _ => true

/-- An instruction is well formed when its memory operand is. -/
def Instr.wf : Instr → Bool
  | .fldM32fp m | .fldM64fp m | .fldM80fp m | .fildM16int m | .fildM32int m | .fildM64int m | .fbld m
  | .fstM32fp m | .fstM64fp m | .fstpM32fp m | .fstpM64fp m | .fstpM80fp m | .fistM16int m | .fistM32int m
  | .fistpM16int m | .fistpM32int m | .fistpM64int m | .fbstp m | .faddM32fp m | .faddM64fp m | .fiaddM32int m
  | .fiaddM16int m | .fmulM32fp m | .fmulM64fp m | .fimulM32int m | .fimulM16int m | .fsubM32fp m | .fsubM64fp m
  | .fisubM32int m | .fisubM16int m | .fsubrM32fp m | .fsubrM64fp m | .fisubrM32int m | .fisubrM16int m
  | .fdivM32fp m | .fdivM64fp m | .fidivM32int m | .fidivM16int m | .fdivrM32fp m | .fdivrM64fp m
  | .fidivrM32int m | .fidivrM16int m | .fcomM32fp m | .fcomM64fp m | .fcompM32fp m | .fcompM64fp m
  | .ficomM16int m | .ficomM32int m | .ficompM16int m | .ficompM32int m | .fnstcw m | .fldcw m | .fnstswM2byte m
  | .fnstenv m | .fldenv m | .fnsave m | .frstor m => m.wf
  | .fldSt _ | .fstSt _ | .fstpSt _ | .fstp1St _ | .fstp8St _ | .fstp9St _ | .fld1 | .fldl2t | .fldl2e | .fldpi
  | .fldlg2 | .fldln2 | .fldz | .fcmovb _ | .fcmove _ | .fcmovbe _ | .fcmovu _ | .fcmovnb _ | .fcmovne _
  | .fcmovnbe _ | .fcmovnu _ | .faddSt0Sti _ | .faddStiSt0 _ | .faddp _ | .fmulSt0Sti _ | .fmulStiSt0 _ | .fmulp _
  | .fsubSt0Sti _ | .fsubStiSt0 _ | .fsubp _ | .fsubrSt0Sti _ | .fsubrStiSt0 _ | .fsubrp _ | .fdivSt0Sti _
  | .fdivStiSt0 _ | .fdivp _ | .fdivrSt0Sti _ | .fdivrStiSt0 _ | .fdivrp _ | .fabs | .fchs | .fsqrt | .frndint
  | .fscale | .fxtract | .fprem | .fprem1 | .f2xm1 | .fyl2x | .fyl2xp1 | .fptan | .fpatan | .fsin | .fcos
  | .fsincos | .fcomSt _ | .fcom2St _ | .fcompSt _ | .fcomp3St _ | .fcomp5St _ | .fcompp | .fucom _ | .fucomp _
  | .fucompp | .fcomi _ | .fcomip _ | .fucomi _ | .fucomip _ | .fxam | .ftst | .fxchSt _ | .fxch4St _ | .fxch7St _
  | .fincstp | .fdecstp | .ffree _ | .ffreep _ | .fnop | .fnstswAx | .fnclex | .fninit | .fneni | .fndisi
  | .fnsetpm | .wait => true

end Sys2Proof
end

