-- ==== Sys2Proof/Decode.lean ====
section
/-! DEFINITION. The escape decoder (spec/30_encoding.md), total on any list of bytes and refusing by name, and after it the
encoder, written from the same tables. -/

namespace Sys2Proof

/-- Why bytes are not an instruction of this core. -/
inductive Reject where
  /-- The first byte after the prefixes is neither 9B nor an escape byte: an instruction of the CPU. -/
  | notX87 (byte : Byte)
  /-- An undefined encoding (R126): the escape byte, the ModRM byte, and the instruction's length. -/
  | undefined (esc modrm : Byte) (len : Nat)
  /-- The bytes end inside the instruction. -/
  | truncated
  deriving DecidableEq, Repr

/-! ## ModRM, SIB and displacement (R118, R120) -/

/-- `mod = modrm[7:6]` (R118). -/
def modOf (b : Byte) : BitVec 2 := b.extractLsb' 6 2

/-- `reg = modrm[5:3]` (R118). -/
def regOf (b : Byte) : BitVec 3 := b.extractLsb' 3 3

/-- `rm = modrm[2:0]` (R118). -/
def rmOf (b : Byte) : BitVec 3 := b.extractLsb' 0 3

/-- The A16 base of an rm value (R120). -/
def base16Of (rm : BitVec 3) : Base16 :=
  match rm.toNat with
  | 0 => .bxSi
  | 1 => .bxDi
  | 2 => .bpSi
  | 3 => .bpDi
  | 4 => .si
  | 5 => .di
  | 6 => .bp
  | _ => .bx

/-- The general register of a register number (R120). -/
def reg32Of (n : BitVec 3) : Reg32 :=
  match n.toNat with
  | 0 => .eax
  | 1 => .ecx
  | 2 => .edx
  | 3 => .ebx
  | 4 => .esp
  | 5 => .ebp
  | 6 => .esi
  | _ => .edi

/-- A little-endian 16-bit number at the head of a list (R81). -/
def take16 : List Byte → Option (BitVec 16 × List Byte)
  | b0 :: b1 :: rest => some (b1 ++ b0, rest)
  | _ => none

/-- A little-endian 32-bit number at the head of a list (R81). -/
def take32 : List Byte → Option (BitVec 32 × List Byte)
  | b0 :: b1 :: b2 :: b3 :: rest => some (b3 ++ b2 ++ b1 ++ b0, rest)
  | _ => none

/-- The displacement of an A16 form with a base, by mod. -/
def takeDisp16 (md : BitVec 2) (bs : List Byte) : Option (Disp16 × List Byte) :=
  match md.toNat, bs with
  | 0, bs => some (.none, bs)
  | 1, b :: rest => some (.d8 b, rest)
  | 1, [] => none
  | _, bs => (take16 bs).map fun x => (.d16 x.1, x.2)

/-- The displacement of an A32 form with a base, by mod. -/
def takeDisp32 (md : BitVec 2) (bs : List Byte) : Option (Disp32 × List Byte) :=
  match md.toNat, bs with
  | 0, bs => some (.none, bs)
  | 1, b :: rest => some (.d8 b, rest)
  | 1, [] => none
  | _, bs => (take32 bs).map fun x => (.d32 x.1, x.2)

/-- The A16 memory operand of (mod, rm), mod not 3 (R120). -/
def memOp16 (md : BitVec 2) (rm : BitVec 3) (bs : List Byte) : Option (MemOp × List Byte) :=
  if md = 0 ∧ rm = 6 then (take16 bs).map fun x => (.abs16 x.1, x.2)
  else (takeDisp16 md bs).map fun x => (.ind16 (base16Of rm) x.1, x.2)

/-- The operand a SIB byte gives: `scale = sib[7:6]`, `index = sib[5:3]`, `base = sib[2:0]` (R120). -/
def sibOp (md : BitVec 2) (sib : Byte) (bs : List Byte) : Option (MemOp × List Byte) :=
  if md = 0 ∧ rmOf sib = 5 then (take32 bs).map fun x => (.sibAbs (modOf sib) (reg32Of (regOf sib)) x.1, x.2)
  else (takeDisp32 md bs).map fun x => (.sib (modOf sib) (reg32Of (regOf sib)) (reg32Of (rmOf sib)) x.1, x.2)

/-- The A32 memory operand of (mod, rm), mod not 3 (R120). -/
def memOp32 (md : BitVec 2) (rm : BitVec 3) (bs : List Byte) : Option (MemOp × List Byte) :=
  if rm = 4 then
    match bs with
    | sib :: rest => sibOp md sib rest
    | [] => none
  else if md = 0 ∧ rm = 5 then (take32 bs).map fun x => (.abs32 x.1, x.2)
  else (takeDisp32 md bs).map fun x => (.ind32 (reg32Of rm) x.1, x.2)

/-- The memory operand of (mod, rm) under the address size the CPU chose (R114, R120). -/
def memOp (a : AddrSize) (md : BitVec 2) (rm : BitVec 3) (bs : List Byte) : Option (MemOp × List Byte) :=
  match a with
  | .a16 => memOp16 md rm bs
  | .a32 => memOp32 md rm bs

/-! ## The sub-tables -/

/-- The escape opcodes are the eight bytes D8 to DF (R110, C1). -/
def isEscape (b : Byte) : Bool := b &&& 0xF8 == 0xD8

/-- The escape prefix identifier, `opcode & 7` (R111). -/
def escOf (b : Byte) : BitVec 3 := b.extractLsb' 0 3

/-- Family A is D8 and DC, Family B the other six (R113, C3). -/
def isFamilyA (esc : Byte) : Bool := esc == 0xD8 || esc == 0xDC

/-- The sub-table index of R113, a function of the escape byte's family and the ModRM byte (C2). -/
def tableIndex (esc modrm : Byte) : Nat :=
  if isFamilyA esc then (modrm.toNat >>> 3) &&& 0x1F else modrm.toNat

/-- `x87_op`, as the decoder records it: `((opcode & 7) << 8) | (fetchdat & 0xFF)` (R112). -/
def x87OpOf (esc modrm : Byte) : Word16 := (0#5 ++ escOf esc) ++ modrm

/-- The memory forms, by escape byte (its low 3 bits) and reg (R123). -/
def memForm (esc reg : BitVec 3) (m : MemOp) : Option Instr :=
  match esc.toNat, reg.toNat with
  | 0, 0 => some (.faddM32fp m)
  | 0, 1 => some (.fmulM32fp m)
  | 0, 2 => some (.fcomM32fp m)
  | 0, 3 => some (.fcompM32fp m)
  | 0, 4 => some (.fsubM32fp m)
  | 0, 5 => some (.fsubrM32fp m)
  | 0, 6 => some (.fdivM32fp m)
  | 0, 7 => some (.fdivrM32fp m)
  | 1, 0 => some (.fldM32fp m)
  | 1, 2 => some (.fstM32fp m)
  | 1, 3 => some (.fstpM32fp m)
  | 1, 4 => some (.fldenv m)
  | 1, 5 => some (.fldcw m)
  | 1, 6 => some (.fnstenv m)
  | 1, 7 => some (.fnstcw m)
  | 2, 0 => some (.fiaddM32int m)
  | 2, 1 => some (.fimulM32int m)
  | 2, 2 => some (.ficomM32int m)
  | 2, 3 => some (.ficompM32int m)
  | 2, 4 => some (.fisubM32int m)
  | 2, 5 => some (.fisubrM32int m)
  | 2, 6 => some (.fidivM32int m)
  | 2, 7 => some (.fidivrM32int m)
  | 3, 0 => some (.fildM32int m)
  | 3, 2 => some (.fistM32int m)
  | 3, 3 => some (.fistpM32int m)
  | 3, 5 => some (.fldM80fp m)
  | 3, 7 => some (.fstpM80fp m)
  | 4, 0 => some (.faddM64fp m)
  | 4, 1 => some (.fmulM64fp m)
  | 4, 2 => some (.fcomM64fp m)
  | 4, 3 => some (.fcompM64fp m)
  | 4, 4 => some (.fsubM64fp m)
  | 4, 5 => some (.fsubrM64fp m)
  | 4, 6 => some (.fdivM64fp m)
  | 4, 7 => some (.fdivrM64fp m)
  | 5, 0 => some (.fldM64fp m)
  | 5, 2 => some (.fstM64fp m)
  | 5, 3 => some (.fstpM64fp m)
  | 5, 4 => some (.frstor m)
  | 5, 6 => some (.fnsave m)
  | 5, 7 => some (.fnstswM2byte m)
  | 6, 0 => some (.fiaddM16int m)
  | 6, 1 => some (.fimulM16int m)
  | 6, 2 => some (.ficomM16int m)
  | 6, 3 => some (.ficompM16int m)
  | 6, 4 => some (.fisubM16int m)
  | 6, 5 => some (.fisubrM16int m)
  | 6, 6 => some (.fidivM16int m)
  | 6, 7 => some (.fidivrM16int m)
  | 7, 0 => some (.fildM16int m)
  | 7, 2 => some (.fistM16int m)
  | 7, 3 => some (.fistpM16int m)
  | 7, 4 => some (.fbld m)
  | 7, 5 => some (.fildM64int m)
  | 7, 6 => some (.fbstp m)
  | 7, 7 => some (.fistpM64int m)
  | _, _ => none

/-- The register forms of escape byte D8 (R124). -/
def regFormD8 (reg rm : BitVec 3) : Option Instr :=
  match reg.toNat, rm.toNat with
  | 0, _ => some (.faddSt0Sti rm)
  | 1, _ => some (.fmulSt0Sti rm)
  | 2, _ => some (.fcomSt rm)
  | 3, _ => some (.fcompSt rm)
  | 4, _ => some (.fsubSt0Sti rm)
  | 5, _ => some (.fsubrSt0Sti rm)
  | 6, _ => some (.fdivSt0Sti rm)
  | 7, _ => some (.fdivrSt0Sti rm)
  | _, _ => none

/-- The register forms of escape byte D9 (R124). -/
def regFormD9 (reg rm : BitVec 3) : Option Instr :=
  match reg.toNat, rm.toNat with
  | 0, _ => some (.fldSt rm)
  | 1, _ => some (.fxchSt rm)
  | 2, 0 => some .fnop
  | 3, _ => some (.fstp1St rm)
  | 4, 0 => some .fchs
  | 4, 1 => some .fabs
  | 4, 4 => some .ftst
  | 4, 5 => some .fxam
  | 5, 0 => some .fld1
  | 5, 1 => some .fldl2t
  | 5, 2 => some .fldl2e
  | 5, 3 => some .fldpi
  | 5, 4 => some .fldlg2
  | 5, 5 => some .fldln2
  | 5, 6 => some .fldz
  | 6, 0 => some .f2xm1
  | 6, 1 => some .fyl2x
  | 6, 2 => some .fptan
  | 6, 3 => some .fpatan
  | 6, 4 => some .fxtract
  | 6, 5 => some .fprem1
  | 6, 6 => some .fdecstp
  | 6, 7 => some .fincstp
  | 7, 0 => some .fprem
  | 7, 1 => some .fyl2xp1
  | 7, 2 => some .fsqrt
  | 7, 3 => some .fsincos
  | 7, 4 => some .frndint
  | 7, 5 => some .fscale
  | 7, 6 => some .fsin
  | 7, 7 => some .fcos
  | _, _ => none

/-- The register forms of escape byte DA (R124). -/
def regFormDA (reg rm : BitVec 3) : Option Instr :=
  match reg.toNat, rm.toNat with
  | 0, _ => some (.fcmovb rm)
  | 1, _ => some (.fcmove rm)
  | 2, _ => some (.fcmovbe rm)
  | 3, _ => some (.fcmovu rm)
  | 5, 1 => some .fucompp
  | _, _ => none

/-- The register forms of escape byte DB (R124). -/
def regFormDB (reg rm : BitVec 3) : Option Instr :=
  match reg.toNat, rm.toNat with
  | 0, _ => some (.fcmovnb rm)
  | 1, _ => some (.fcmovne rm)
  | 2, _ => some (.fcmovnbe rm)
  | 3, _ => some (.fcmovnu rm)
  | 4, 0 => some .fneni
  | 4, 1 => some .fndisi
  | 4, 2 => some .fnclex
  | 4, 3 => some .fninit
  | 4, 4 => some .fnsetpm
  | 5, _ => some (.fucomi rm)
  | 6, _ => some (.fcomi rm)
  | _, _ => none

/-- The register forms of escape byte DC (R124). -/
def regFormDC (reg rm : BitVec 3) : Option Instr :=
  match reg.toNat, rm.toNat with
  | 0, _ => some (.faddStiSt0 rm)
  | 1, _ => some (.fmulStiSt0 rm)
  | 2, _ => some (.fcom2St rm)
  | 3, _ => some (.fcomp3St rm)
  | 4, _ => some (.fsubrStiSt0 rm)
  | 5, _ => some (.fsubStiSt0 rm)
  | 6, _ => some (.fdivrStiSt0 rm)
  | 7, _ => some (.fdivStiSt0 rm)
  | _, _ => none

/-- The register forms of escape byte DD (R124). -/
def regFormDD (reg rm : BitVec 3) : Option Instr :=
  match reg.toNat, rm.toNat with
  | 0, _ => some (.ffree rm)
  | 1, _ => some (.fxch4St rm)
  | 2, _ => some (.fstSt rm)
  | 3, _ => some (.fstpSt rm)
  | 4, _ => some (.fucom rm)
  | 5, _ => some (.fucomp rm)
  | _, _ => none

/-- The register forms of escape byte DE (R124). -/
def regFormDE (reg rm : BitVec 3) : Option Instr :=
  match reg.toNat, rm.toNat with
  | 0, _ => some (.faddp rm)
  | 1, _ => some (.fmulp rm)
  | 2, _ => some (.fcomp5St rm)
  | 3, 1 => some .fcompp
  | 4, _ => some (.fsubrp rm)
  | 5, _ => some (.fsubp rm)
  | 6, _ => some (.fdivrp rm)
  | 7, _ => some (.fdivp rm)
  | _, _ => none

/-- The register forms of escape byte DF (R124). -/
def regFormDF (reg rm : BitVec 3) : Option Instr :=
  match reg.toNat, rm.toNat with
  | 0, _ => some (.ffreep rm)
  | 1, _ => some (.fxch7St rm)
  | 2, _ => some (.fstp8St rm)
  | 3, _ => some (.fstp9St rm)
  | 4, 0 => some .fnstswAx
  | 5, _ => some (.fucomip rm)
  | 6, _ => some (.fcomip rm)
  | _, _ => none

/-- The register forms, by escape byte (its low 3 bits), reg and rm (R124). -/
def regForm (esc reg rm : BitVec 3) : Option Instr :=
  match esc.toNat with
  | 0 => regFormD8 reg rm
  | 1 => regFormD9 reg rm
  | 2 => regFormDA reg rm
  | 3 => regFormDB reg rm
  | 4 => regFormDC reg rm
  | 5 => regFormDD reg rm
  | 6 => regFormDE reg rm
  | _ => regFormDF reg rm

/-- An instruction and the number of its bytes, prefixes not counted (R121). -/
structure Decoded where
  instr : Instr
  len : Nat
  deriving DecidableEq, Repr

/-- Decodes the bytes after an escape byte. The operation comes from (escape, reg) in a memory form and from
(escape, reg, rm) in a register form (R118). -/
def decodeEscape (a : AddrSize) (esc : Byte) (bs : List Byte) : Except Reject Decoded :=
  match bs with
  | [] => .error .truncated
  | modrm :: rest =>
    if modOf modrm = 3 then
      match regForm (escOf esc) (regOf modrm) (rmOf modrm) with
      | some i => .ok ⟨i, 2⟩
      | none => .error (.undefined esc modrm 2)
    else
      match memOp a (modOf modrm) (rmOf modrm) rest with
      | none => .error .truncated
      | some (m, rest') =>
        match memForm (escOf esc) (regOf modrm) m with
        | some i => .ok ⟨i, 2 + (rest.length - rest'.length)⟩
        | none => .error (.undefined esc modrm (2 + (rest.length - rest'.length)))

/-- The decoder, on the bytes after the prefixes. WAIT is the single byte 9B and no escape instruction (R110). -/
def decode (a : AddrSize) (bs : List Byte) : Except Reject Decoded :=
  match bs with
  | [] => .error .truncated
  | b :: rest =>
    if b = 0x9B then .ok ⟨.wait, 1⟩
    else if isEscape b then decodeEscape a b rest
    else .error (.notX87 b)

/-- The bytes of an instruction whose bits are `w` as spec/opcode_table.json numbers them: the table's word is the escape
byte in bits 15:8 and the ModRM byte in bits 7:0, so of each 16-bit word the high byte comes first; a row of one byte is
that byte (notes/assumptions/25.md). Every byte after the table's is 0. -/
def tableBytes (nbits w : Nat) : List Byte :=
  let zeros : List Byte := List.replicate 13 0
  if nbits ≤ 8 then [BitVec.ofNat 8 w, 0, 0] ++ zeros
  else [BitVec.ofNat 8 (w >>> 8), BitVec.ofNat 8 w, BitVec.ofNat 8 (w >>> 24), BitVec.ofNat 8 (w >>> 16)] ++ zeros

/-- The instruction the decoder reads from a word of the opcode table, in the 16-bit address size of the reset state. -/
def decodeTableWord (nbits w : Nat) : Option Instr :=
  match decode .a16 (tableBytes nbits w) with
  | .ok d => some d.instr
  | .error _ => none

/-! ## The encoder -/

/-- The opcode of an instruction: WAIT, or the escape byte's low 3 bits, reg, and a memory operand or rm. -/
inductive Opcode where
  | wait
  | mem (esc reg : BitVec 3) (m : MemOp)
  | reg (esc reg rm : BitVec 3)
  deriving DecidableEq, Repr

/-- The opcode of each instruction, from spec/opcode_table.json: `match` and the operand. -/
def opcodeOf : Instr → Opcode
  | .fldM32fp m => .mem 1 0 m
  | .fldM64fp m => .mem 5 0 m
  | .fldM80fp m => .mem 3 5 m
  | .fldSt i => .reg 1 0 i
  | .fildM16int m => .mem 7 0 m
  | .fildM32int m => .mem 3 0 m
  | .fildM64int m => .mem 7 5 m
  | .fbld m => .mem 7 4 m
  | .fstM32fp m => .mem 1 2 m
  | .fstM64fp m => .mem 5 2 m
  | .fstSt i => .reg 5 2 i
  | .fstpM32fp m => .mem 1 3 m
  | .fstpM64fp m => .mem 5 3 m
  | .fstpM80fp m => .mem 3 7 m
  | .fstpSt i => .reg 5 3 i
  | .fstp1St i => .reg 1 3 i
  | .fstp8St i => .reg 7 2 i
  | .fstp9St i => .reg 7 3 i
  | .fistM16int m => .mem 7 2 m
  | .fistM32int m => .mem 3 2 m
  | .fistpM16int m => .mem 7 3 m
  | .fistpM32int m => .mem 3 3 m
  | .fistpM64int m => .mem 7 7 m
  | .fbstp m => .mem 7 6 m
  | .fld1 => .reg 1 5 0
  | .fldl2t => .reg 1 5 1
  | .fldl2e => .reg 1 5 2
  | .fldpi => .reg 1 5 3
  | .fldlg2 => .reg 1 5 4
  | .fldln2 => .reg 1 5 5
  | .fldz => .reg 1 5 6
  | .fcmovb i => .reg 2 0 i
  | .fcmove i => .reg 2 1 i
  | .fcmovbe i => .reg 2 2 i
  | .fcmovu i => .reg 2 3 i
  | .fcmovnb i => .reg 3 0 i
  | .fcmovne i => .reg 3 1 i
  | .fcmovnbe i => .reg 3 2 i
  | .fcmovnu i => .reg 3 3 i
  | .faddM32fp m => .mem 0 0 m
  | .faddM64fp m => .mem 4 0 m
  | .faddSt0Sti i => .reg 0 0 i
  | .faddStiSt0 i => .reg 4 0 i
  | .faddp i => .reg 6 0 i
  | .fiaddM32int m => .mem 2 0 m
  | .fiaddM16int m => .mem 6 0 m
  | .fmulM32fp m => .mem 0 1 m
  | .fmulM64fp m => .mem 4 1 m
  | .fmulSt0Sti i => .reg 0 1 i
  | .fmulStiSt0 i => .reg 4 1 i
  | .fmulp i => .reg 6 1 i
  | .fimulM32int m => .mem 2 1 m
  | .fimulM16int m => .mem 6 1 m
  | .fsubM32fp m => .mem 0 4 m
  | .fsubM64fp m => .mem 4 4 m
  | .fsubSt0Sti i => .reg 0 4 i
  | .fsubStiSt0 i => .reg 4 5 i
  | .fsubp i => .reg 6 5 i
  | .fisubM32int m => .mem 2 4 m
  | .fisubM16int m => .mem 6 4 m
  | .fsubrM32fp m => .mem 0 5 m
  | .fsubrM64fp m => .mem 4 5 m
  | .fsubrSt0Sti i => .reg 0 5 i
  | .fsubrStiSt0 i => .reg 4 4 i
  | .fsubrp i => .reg 6 4 i
  | .fisubrM32int m => .mem 2 5 m
  | .fisubrM16int m => .mem 6 5 m
  | .fdivM32fp m => .mem 0 6 m
  | .fdivM64fp m => .mem 4 6 m
  | .fdivSt0Sti i => .reg 0 6 i
  | .fdivStiSt0 i => .reg 4 7 i
  | .fdivp i => .reg 6 7 i
  | .fidivM32int m => .mem 2 6 m
  | .fidivM16int m => .mem 6 6 m
  | .fdivrM32fp m => .mem 0 7 m
  | .fdivrM64fp m => .mem 4 7 m
  | .fdivrSt0Sti i => .reg 0 7 i
  | .fdivrStiSt0 i => .reg 4 6 i
  | .fdivrp i => .reg 6 6 i
  | .fidivrM32int m => .mem 2 7 m
  | .fidivrM16int m => .mem 6 7 m
  | .fabs => .reg 1 4 1
  | .fchs => .reg 1 4 0
  | .fsqrt => .reg 1 7 2
  | .frndint => .reg 1 7 4
  | .fscale => .reg 1 7 5
  | .fxtract => .reg 1 6 4
  | .fprem => .reg 1 7 0
  | .fprem1 => .reg 1 6 5
  | .f2xm1 => .reg 1 6 0
  | .fyl2x => .reg 1 6 1
  | .fyl2xp1 => .reg 1 7 1
  | .fptan => .reg 1 6 2
  | .fpatan => .reg 1 6 3
  | .fsin => .reg 1 7 6
  | .fcos => .reg 1 7 7
  | .fsincos => .reg 1 7 3
  | .fcomM32fp m => .mem 0 2 m
  | .fcomM64fp m => .mem 4 2 m
  | .fcomSt i => .reg 0 2 i
  | .fcom2St i => .reg 4 2 i
  | .fcompM32fp m => .mem 0 3 m
  | .fcompM64fp m => .mem 4 3 m
  | .fcompSt i => .reg 0 3 i
  | .fcomp3St i => .reg 4 3 i
  | .fcomp5St i => .reg 6 2 i
  | .fcompp => .reg 6 3 1
  | .fucom i => .reg 5 4 i
  | .fucomp i => .reg 5 5 i
  | .fucompp => .reg 2 5 1
  | .fcomi i => .reg 3 6 i
  | .fcomip i => .reg 7 6 i
  | .fucomi i => .reg 3 5 i
  | .fucomip i => .reg 7 5 i
  | .fxam => .reg 1 4 5
  | .ftst => .reg 1 4 4
  | .ficomM16int m => .mem 6 2 m
  | .ficomM32int m => .mem 2 2 m
  | .ficompM16int m => .mem 6 3 m
  | .ficompM32int m => .mem 2 3 m
  | .fxchSt i => .reg 1 1 i
  | .fxch4St i => .reg 5 1 i
  | .fxch7St i => .reg 7 1 i
  | .fincstp => .reg 1 6 7
  | .fdecstp => .reg 1 6 6
  | .ffree i => .reg 5 0 i
  | .ffreep i => .reg 7 0 i
  | .fnop => .reg 1 2 0
  | .fnstcw m => .mem 1 7 m
  | .fldcw m => .mem 1 5 m
  | .fnstswM2byte m => .mem 5 7 m
  | .fnstswAx => .reg 7 4 0
  | .fnclex => .reg 3 4 2
  | .fninit => .reg 3 4 3
  | .fneni => .reg 3 4 0
  | .fndisi => .reg 3 4 1
  | .fnsetpm => .reg 3 4 4
  | .fnstenv m => .mem 1 6 m
  | .fldenv m => .mem 1 4 m
  | .fnsave m => .mem 5 6 m
  | .frstor m => .mem 5 4 m
  | .wait => .wait

/-- The ModRM byte `{mod, reg, rm}`, and the SIB byte `{scale, index, base}` (R118, R120). -/
def packByte (md : BitVec 2) (reg rm : BitVec 3) : Byte := md ++ reg ++ rm

/-- The escape byte, D8 plus the identifier (R110, R111). -/
def escapeByte (esc : BitVec 3) : Byte := 0b11011#5 ++ esc

/-- The number of a general register (R120). -/
def reg32Num : Reg32 → BitVec 3
  | .eax => 0
  | .ecx => 1
  | .edx => 2
  | .ebx => 3
  | .esp => 4
  | .ebp => 5
  | .esi => 6
  | .edi => 7

/-- The rm value of an A16 base (R120). -/
def base16Num : Base16 → BitVec 3
  | .bxSi => 0
  | .bxDi => 1
  | .bpSi => 2
  | .bpDi => 3
  | .si => 4
  | .di => 5
  | .bp => 6
  | .bx => 7

/-- Little-endian bytes of a 16-bit number (R81). -/
def bytes16 (d : BitVec 16) : List Byte := [d.extractLsb' 0 8, d.extractLsb' 8 8]

/-- Little-endian bytes of a 32-bit number (R81). -/
def bytes32 (d : BitVec 32) : List Byte :=
  [d.extractLsb' 0 8, d.extractLsb' 8 8, d.extractLsb' 16 8, d.extractLsb' 24 8]

/-- The mod value and the bytes of an A16 displacement. -/
def encodeDisp16 : Disp16 → BitVec 2 × List Byte
  | .none => (0, [])
  | .d8 d => (1, [d])
  | .d16 d => (2, bytes16 d)

/-- The mod value and the bytes of an A32 displacement. -/
def encodeDisp32 : Disp32 → BitVec 2 × List Byte
  | .none => (0, [])
  | .d8 d => (1, [d])
  | .d32 d => (2, bytes32 d)

/-- mod, rm, and the bytes after the ModRM byte, for a memory operand (R120). -/
def encodeMemOp : MemOp → BitVec 2 × BitVec 3 × List Byte
  | .abs16 d => (0, 6, bytes16 d)
  | .ind16 b d => ((encodeDisp16 d).1, base16Num b, (encodeDisp16 d).2)
  | .abs32 d => (0, 5, bytes32 d)
  | .ind32 b d => ((encodeDisp32 d).1, reg32Num b, (encodeDisp32 d).2)
  | .sib scale index base d =>
    ((encodeDisp32 d).1, 4, packByte scale (reg32Num index) (reg32Num base) :: (encodeDisp32 d).2)
  | .sibAbs scale index d => (0, 4, packByte scale (reg32Num index) 5 :: bytes32 d)

/-- The bytes of an opcode. -/
def encodeOpcode : Opcode → List Byte
  | .wait => [0x9B]
  | .mem esc reg m =>
    escapeByte esc :: packByte (encodeMemOp m).1 reg (encodeMemOp m).2.1 :: (encodeMemOp m).2.2
  | .reg esc reg rm => [escapeByte esc, packByte 3 reg rm]

/-- The bytes of an instruction, without prefixes. -/
def encode (i : Instr) : List Byte := encodeOpcode (opcodeOf i)

/-- Whether an opcode can be written under an address size: a memory operand belongs to one of the two (R114, R120). -/
def Opcode.fits : Opcode → AddrSize → Bool
  | .wait, _ => true
  | .mem _ _ m, a => m.addrSize == a
  | .reg _ _ _, _ => true

/-- Whether an instruction can be written under an address size. -/
def Instr.fits (i : Instr) (a : AddrSize) : Bool := (opcodeOf i).fits a

end Sys2Proof
end

