-- ==== Sys2Proof/Machine/Fetch.lean ====
section
/-! DEFINITION. What the CPU does around an instruction of this core (spec/10_state.md R55 to R57, spec/30_encoding.md R112,
R121, R122, R126): fetching, prefixes, the inputs, and the instruction pointer. -/

namespace Sys2Proof.Machine

/-! ## Fetch -/

/-- How many bytes the CPU fetches for one instruction (notes/assumptions/22.md). -/
def fetchSize : Nat := 15

/-- EIP moved on by n: modulo 2^16 for a 16-bit code segment, modulo 2^32 for a 32-bit one (R57). -/
def advanceEip (code32 : Bool) (eip : Word32) (n : Nat) : Word32 :=
  if code32 then eip + BitVec.ofNat 32 n else (eip.setWidth 16 + BitVec.ofNat 16 n).setWidth 32

/-- The linear address of the instruction byte at distance k from EIP. -/
def State.fetchAddr (s : State) (k : Nat) : Nat := (s.segs.cs.base + advanceEip s.code32 s.eip k).toNat

/-- `n` instruction bytes from distance `k` on. A fetch reads memory as it is now (R94, notes/assumptions/36.md). -/
def State.fetchFrom (s : State) : Nat → Nat → List Byte
  | _, 0 => []
  | k, n + 1 => readByte s.mem (s.fetchAddr k) :: s.fetchFrom (k + 1) n

/-- The bytes at EIP. -/
def State.fetch (s : State) : List Byte := s.fetchFrom 0 fetchSize

/-! ## Prefixes (R122) -/

/-- The prefixes seen so far. -/
structure Prefixes where
  lock : Bool := false
  seg : Option Seg := none
  opSize : Bool := false
  addrSize : Bool := false
  len : Nat := 0
  deriving DecidableEq, Repr

/-- The prefixes with one more byte, or `none` when the byte is no prefix (R122). The last of several segment overrides
counts (notes/assumptions/22.md); F2 and F3 have no effect. -/
def Prefixes.add (p : Prefixes) (b : Byte) : Option Prefixes :=
  let q := { p with len := p.len + 1 }
  if b = 0x66 then some { q with opSize := true }
  else if b = 0x67 then some { q with addrSize := true }
  else if b = 0x26 then some { q with seg := some .es }
  else if b = 0x2E then some { q with seg := some .cs }
  else if b = 0x36 then some { q with seg := some .ss }
  else if b = 0x3E then some { q with seg := some .ds }
  else if b = 0x64 then some { q with seg := some .fs }
  else if b = 0x65 then some { q with seg := some .gs }
  else if b = 0xF0 then some { q with lock := true }
  else if b = 0xF2 ∨ b = 0xF3 then some q
  else none

/-- Takes the prefixes off a list of bytes. -/
def takePrefixes (p : Prefixes) : List Byte → Prefixes × List Byte
  | [] => (p, [])
  | b :: rest =>
    match p.add b with
    | some q => takePrefixes q rest
    | none => (p, b :: rest)

/-- `ADDR_SIZE`: the code segment's default, or the other with prefix 67 (R114, R122). -/
def Prefixes.addr (p : Prefixes) (code32 : Bool) : AddrSize := if p.addrSize != code32 then .a32 else .a16

/-- `OP_SIZE`: the code segment's default, or the other with prefix 66 (R122). -/
def Prefixes.op (p : Prefixes) (code32 : Bool) : OpSize := if p.opSize != code32 then .o32 else .o16

/-- The inputs the prefixes and the code segment give (R55). -/
def Prefixes.inputs (p : Prefixes) (code32 : Bool) : Inputs := ⟨p.lock, p.seg, p.op code32⟩

/-! ## Which instruction runs -/

/-- Whether the row is in the table under the parameters: the P6 rows need `P6_EXT`, the alias rows `UNDOC_ALIASES`
(R125, R126). -/
def available (c : Params) : Instr → Bool
  | .fcmovb _ | .fcmove _ | .fcmovbe _ | .fcmovu _ | .fcmovnb _ | .fcmovne _ | .fcmovnbe _ | .fcmovnu _ | .fcomi _
  | .fcomip _ | .fucomi _ | .fucomip _ => c.p6Ext
  | .fstp1St _ | .fstp8St _ | .fstp9St _ | .fcom2St _ | .fcomp3St _ | .fcomp5St _ | .fxch4St _ | .fxch7St _
  | .ffreep _ => c.undocAliases
  | .fldM32fp _ | .fldM64fp _ | .fldM80fp _ | .fldSt _ | .fildM16int _ | .fildM32int _ | .fildM64int _ | .fbld _
  | .fstM32fp _ | .fstM64fp _ | .fstSt _ | .fstpM32fp _ | .fstpM64fp _ | .fstpM80fp _ | .fstpSt _ | .fistM16int _
  | .fistM32int _ | .fistpM16int _ | .fistpM32int _ | .fistpM64int _ | .fbstp _ | .fld1 | .fldl2t | .fldl2e
  | .fldpi | .fldlg2 | .fldln2 | .fldz | .faddM32fp _ | .faddM64fp _ | .faddSt0Sti _ | .faddStiSt0 _ | .faddp _
  | .fiaddM32int _ | .fiaddM16int _ | .fmulM32fp _ | .fmulM64fp _ | .fmulSt0Sti _ | .fmulStiSt0 _ | .fmulp _
  | .fimulM32int _ | .fimulM16int _ | .fsubM32fp _ | .fsubM64fp _ | .fsubSt0Sti _ | .fsubStiSt0 _ | .fsubp _
  | .fisubM32int _ | .fisubM16int _ | .fsubrM32fp _ | .fsubrM64fp _ | .fsubrSt0Sti _ | .fsubrStiSt0 _ | .fsubrp _
  | .fisubrM32int _ | .fisubrM16int _ | .fdivM32fp _ | .fdivM64fp _ | .fdivSt0Sti _ | .fdivStiSt0 _ | .fdivp _
  | .fidivM32int _ | .fidivM16int _ | .fdivrM32fp _ | .fdivrM64fp _ | .fdivrSt0Sti _ | .fdivrStiSt0 _ | .fdivrp _
  | .fidivrM32int _ | .fidivrM16int _ | .fabs | .fchs | .fsqrt | .frndint | .fscale | .fxtract | .fprem | .fprem1
  | .f2xm1 | .fyl2x | .fyl2xp1 | .fptan | .fpatan | .fsin | .fcos | .fsincos | .fcomM32fp _ | .fcomM64fp _
  | .fcomSt _ | .fcompM32fp _ | .fcompM64fp _ | .fcompSt _ | .fcompp | .fucom _ | .fucomp _ | .fucompp | .fxam
  | .ftst | .ficomM16int _ | .ficomM32int _ | .ficompM16int _ | .ficompM32int _ | .fxchSt _ | .fincstp | .fdecstp
  | .ffree _ | .fnop | .fnstcw _ | .fldcw _ | .fnstswM2byte _ | .fnstswAx | .fnclex | .fninit | .fneni | .fndisi
  | .fnsetpm | .fnstenv _ | .fldenv _ | .fnsave _ | .frstor _ | .wait => true

/-- What the machine does with the bytes at EIP. -/
inductive Plan where
  /-- Execute an instruction: its inputs, what the decoder records in `x87_op` (WAIT records nothing), and the number of its
  bytes, prefixes included. -/
  | run (i : Instr) (inp : Inputs) (op : Option Word16) (len : Nat)
  /-- Raise CPUFault(6) for an undefined encoding with a LOCK prefix or under UNDEF_ESC = UD. -/
  | invalidOpcode (inp : Inputs) (op : Word16)
  | refuse (r : Refusal)
  deriving DecidableEq, Repr

/-- The behaviour of an undefined encoding (R126): REFUSE where the parameter lists none. -/
def undefBehaviour (c : Params) (esc modrm : Byte) : UndefBehaviour :=
  match c.undefEsc.lookup (esc ++ modrm) with
  | some b => b
  | none => .refuse

/-- The instruction with its ST(i) replaced; an instruction that has none is unchanged. -/
def withSt (i : BitVec 3) : Instr → Instr
  | .fldSt _ => .fldSt i
  | .fstSt _ => .fstSt i
  | .fstpSt _ => .fstpSt i
  | .fstp1St _ => .fstp1St i
  | .fstp8St _ => .fstp8St i
  | .fstp9St _ => .fstp9St i
  | .fcmovb _ => .fcmovb i
  | .fcmove _ => .fcmove i
  | .fcmovbe _ => .fcmovbe i
  | .fcmovu _ => .fcmovu i
  | .fcmovnb _ => .fcmovnb i
  | .fcmovne _ => .fcmovne i
  | .fcmovnbe _ => .fcmovnbe i
  | .fcmovnu _ => .fcmovnu i
  | .faddSt0Sti _ => .faddSt0Sti i
  | .faddStiSt0 _ => .faddStiSt0 i
  | .faddp _ => .faddp i
  | .fmulSt0Sti _ => .fmulSt0Sti i
  | .fmulStiSt0 _ => .fmulStiSt0 i
  | .fmulp _ => .fmulp i
  | .fsubSt0Sti _ => .fsubSt0Sti i
  | .fsubStiSt0 _ => .fsubStiSt0 i
  | .fsubp _ => .fsubp i
  | .fsubrSt0Sti _ => .fsubrSt0Sti i
  | .fsubrStiSt0 _ => .fsubrStiSt0 i
  | .fsubrp _ => .fsubrp i
  | .fdivSt0Sti _ => .fdivSt0Sti i
  | .fdivStiSt0 _ => .fdivStiSt0 i
  | .fdivp _ => .fdivp i
  | .fdivrSt0Sti _ => .fdivrSt0Sti i
  | .fdivrStiSt0 _ => .fdivrStiSt0 i
  | .fdivrp _ => .fdivrp i
  | .fcomSt _ => .fcomSt i
  | .fcom2St _ => .fcom2St i
  | .fcompSt _ => .fcompSt i
  | .fcomp3St _ => .fcomp3St i
  | .fcomp5St _ => .fcomp5St i
  | .fucom _ => .fucom i
  | .fucomp _ => .fucomp i
  | .fcomi _ => .fcomi i
  | .fcomip _ => .fcomip i
  | .fucomi _ => .fucomi i
  | .fucomip _ => .fucomip i
  | .fxchSt _ => .fxchSt i
  | .fxch4St _ => .fxch4St i
  | .fxch7St _ => .fxch7St i
  | .ffree _ => .ffree i
  | .ffreep _ => .ffreep i
  | row => row

/-- The row under ALIAS with the operand of the encoding that executes as it: i is `x87_op[2:0]` (spec/41_load_store.md),
and a memory row takes the encoding's memory operand. A register form has none, and there the row's own stands
(notes/assumptions/24.md). `rest` is what follows the ModRM byte. -/
def aliasOf (a : AddrSize) (modrm : Byte) (rest : List Byte) (row : Instr) : Instr :=
  match opcodeOf row with
  | .wait => row
  | .reg _ _ _ => withSt (rmOf modrm) row
  | .mem esc reg _ =>
    if modOf modrm = 3 then row
    else
      match memOp a (modOf modrm) (rmOf modrm) rest with
      | some (m, _) => (memForm esc reg m).getD row
      | none => row

/-- An undefined encoding: LOCK faults before any other check (D39), else UNDEF_ESC decides (R126). `rest` is what follows
its ModRM byte. -/
def planUndefined (c : Params) (a : AddrSize) (inp : Inputs) (esc modrm : Byte) (len : Nat) (rest : List Byte) : Plan :=
  let op := x87OpOf esc modrm
  if inp.lock then .invalidOpcode inp op
  else
    match undefBehaviour c esc modrm with
    | .refuse => .refuse (.undefinedEncoding esc modrm)
    | .nop => .run .fnop inp (some op) len
    | .ud => .invalidOpcode inp op
    | .likeRow row => .run (aliasOf a modrm rest row) inp (some op) len

/-- What the decoder records in `x87_op` for an instruction whose first bytes are given: nothing for WAIT (R48, R112). -/
def recordedOp (bs : List Byte) : Option Word16 :=
  match bs with
  | esc :: modrm :: _ => if isEscape esc then some (x87OpOf esc modrm) else none
  | _ => none

/-- What the machine does with the bytes after the prefixes. -/
def planAfter (c : Params) (code32 : Bool) (p : Prefixes) (bs : List Byte) : Plan :=
  let a := p.addr code32
  let inp := p.inputs code32
  match decode a bs with
  | .ok d =>
    if available c d.instr then .run d.instr inp (recordedOp bs) (p.len + d.len)
    else
      match bs with
      | esc :: modrm :: rest => planUndefined c a inp esc modrm (p.len + d.len) rest
      | _ => .refuse .tooLong
  | .error (.undefined esc modrm len) => planUndefined c a inp esc modrm (p.len + len) (bs.drop 2)
  | .error (.notX87 b) => .refuse (.cpuInstruction b)
  | .error .truncated => .refuse .tooLong

/-- What the machine does with the bytes of a list. -/
def planBytes (c : Params) (code32 : Bool) (bs : List Byte) : Plan :=
  let x := takePrefixes {} bs
  planAfter c code32 x.1 x.2

/-- What the machine does next. -/
def State.plan (s : State) : Plan := planBytes s.params s.code32 s.fetch

/-! ## Around the instruction -/

/-- The state an instruction starts in: its inputs, and `x87_op` as the decoder records it (R55, R112). -/
def State.latch (s : State) (inp : Inputs) (op : Option Word16) : State :=
  { s with inp := inp, x87op := op.getD s.x87op }

/-- The state after an instruction of `len` bytes: EIP moves on after NORMAL completion, and after an IRQ 13 report under
IRQ13_RESUME = NEXT (R57, R428). `before` is the count of IRQ 13 requests the instruction started with. -/
def State.resume (s : State) (before len : Nat) : State :=
  if s.completion = .normal ∨ (s.irq13 ≠ before ∧ s.params.irq13Resume = .next) then
    { s with eip := advanceEip s.code32 s.eip len }
  else s

/-- The outcome of a step that runs an instruction of `len` bytes. -/
def resumeOutcome (before len : Nat) : Outcome → Outcome
  | .next s => .next (s.resume before len)
  | .fault f => .fault f
  | .refused r => .refused r

/-- The CPU delivers the deferred request: it clears NE_REQ and delivers vector 16 with the saved EIP at the reporting
instruction's first byte (R426, notes/assumptions/8.md). -/
def State.deliverMF (s : State) : State := { s with neReq := false }.raiseCpu .floatingPoint

/-- Whether the CPU delivers the deferred request now. -/
def State.mfDue (s : State) : Bool := s.neReq && s.params.mfDelivery == .nextBoundary

/-- The bytes written one at each fetch address from distance `k` on. -/
def State.placeFrom (s : State) : Nat → List Byte → State
  | _, [] => s
  | k, b :: bs => { s with mem := writeByte s.mem (s.fetchAddr k) b }.placeFrom (k + 1) bs

/-- The bytes stored where the next instruction is fetched. -/
def State.place (s : State) (bs : List Byte) : State := s.placeFrom 0 (bs.take fetchSize)

end Sys2Proof.Machine
end

