-- ==== Sys2Proof/Machine/Step.lean ====
section
/-! DEFINITION. One step: the CPU delivers what is due, or fetches and runs one instruction. -/

namespace Sys2Proof.Machine

/-- One step. A state that holds a CPU fault stops: its delivery is the CPU's (spec/60_exceptions.md R431). -/
def step (s : State) : Host.Outcome State Fault Refusal :=
  match s.cpuFault with
  | some f => .fault (.handedToCpu f.vector)
  | none =>
    if s.mfDue then .next s.deliverMF
    else
      match s.plan with
      | .run i inp op len => resumeOutcome s.irq13 len (exec i (s.latch inp op))
      | .invalidOpcode inp op => .next ((s.latch inp (some op)).raiseCpu .invalidOpcode)
      | .refuse r => .refused r

/-- The state with the instruction of a word of the opcode table stored where `step` fetches next, and nothing pending that
would come before it. -/
def State.withFetchWord (s : State) (nbits w : Nat) : State :=
  { s.place (tableBytes nbits w) with
    cpuFault := none
    neReq := if s.mfDue then false else s.neReq }

end Sys2Proof.Machine
end

