-- ==== Sys2Proof/Machine/Reset.lean ====
section
/-! DEFINITION. The CPU's RESET of a running machine (spec/70_reset_and_hazards.md R460, R461). No instruction and no step
performs it: it is an input from outside, between two steps. -/

namespace Sys2Proof.Machine

/-- The state after a hardware reset of `s`, in the column `rs` of R71: memory is untouched, and so is the IRQ 13 request
(R461). The cycle account, the fault regions, the parameters and the counter of draws stay too (notes/assumptions/41.md). -/
def State.hardwareReset (rs : ResetState) (drawnRegs : Vector F80 8) (drawnOp : BitVec 11) (s : State) : State :=
  { State.resetOf rs drawnRegs drawnOp with
    irq13 := s.irq13
    cycles := s.cycles
    mem := s.mem
    faultMap := s.faultMap
    params := s.params
    draws := s.draws }

end Sys2Proof.Machine
end

