-- ==== Sys2Proof/Safety.lean ====
section
/-! DEFINITION. The terms claims are stated in: when an instruction runs, the invariant of the machine, who may write what,
and what a completed instruction leaves unchanged. -/

namespace Sys2Proof.Machine

/-! ## Kinds of instruction -/

/-- The NONWAITING escape instructions (spec/60_exceptions.md R420). -/
def isNonwaiting : Instr → Bool
  | .fninit | .fnclex | .fnstcw _ | .fnstswM2byte _ | .fnstswAx | .fnstenv _ | .fnsave _ | .fneni | .fndisi | .fnsetpm => true
  | _ => false

/-- The kind of an escape instruction (R420). -/
def kindOf (i : Instr) : Kind := if isNonwaiting i then .nonwaiting else .waiting

/-- The instructions that store to memory (spec/20_memory.md R82). -/
def storesMemory : Instr → Bool
  | .fstM32fp _ | .fstM64fp _ | .fstpM32fp _ | .fstpM64fp _ | .fstpM80fp _ | .fistM16int _ | .fistM32int _
  | .fistpM16int _ | .fistpM32int _ | .fistpM64int _ | .fbstp _ | .fnstcw _ | .fnstswM2byte _ | .fnstenv _ | .fnsave _ => true
  | _ => false

/-- The instructions that write EFLAGS (spec/10_state.md R54). -/
def writesEflags : Instr → Bool
  | .fcomi _ | .fcomip _ | .fucomi _ | .fucomip _ => true
  | _ => false

/-- The instructions that write CW: the writers of R46, FNINIT, FNSAVE and FNSTENV. -/
def writesCw : Instr → Bool
  | .fldcw _ | .fldenv _ | .frstor _ | .fninit | .fnsave _ | .fnstenv _ => true
  | _ => false

/-- The instructions that can clear an exception flag of SW (R39). -/
def clearsFlags : Instr → Bool
  | .fnclex | .fninit | .fnsave _ | .fldenv _ | .frstor _ => true
  | _ => false

/-! ## When an instruction runs -/

/-- The checks of FPU_ENTRY pass: no LOCK prefix, EM = TS = 0, software mode, and for a waiting instruction no pending
exception (spec/60_exceptions.md R420). -/
def Ready (kind : Kind) (s : State) : Prop :=
  s.inp.lock = false ∧ s.cr0 &&& 0xC = 0 ∧ s.params.softfloat = true ∧ (kind = .waiting → swES s.sw = false)

/-- The `n` bytes of a memory operand can be read (spec/20_memory.md R85). -/
def Readable (s : State) (m : MemOp) (n : Nat) : Prop := accessFault s.faultMap false (s.addr m) n = none

/-- The `n` bytes of a memory operand can be written (R85). -/
def Writable (s : State) (m : MemOp) (n : Nat) : Prop := accessFault s.faultMap true (s.addr m) n = none

/-- What a memory operand of `n` bytes holds. -/
def State.operand (s : State) (m : MemOp) (n : Nat) : Nat := readLE s.mem (s.addr m) n

/-- The flags hold no unmasked IE, DE or ZE: nothing of the instruction is suppressed (spec/40_numerics.md R190). -/
def Undisturbed (s : State) (e : Exc) : Prop := (e.unmasked s.cw).pre = false

/-! ## The invariant -/

/-- What every reachable state has: ES and B summarise the unmasked flags (R40), CW has its canonical form (R46), the tag of
a non-empty register is that of its contents (R35), `x87_op` has 11 significant bits (R48), and memory is in canonical form. -/
structure Inv (s : State) : Prop where
  summary : swES s.sw = unmaskedPending s.sw s.cw
  busy : s.sw.getLsbD 15 = swES s.sw
  control : cwStored s.cw = s.cw
  tags : ∀ k : BitVec 3, s.tag k ≠ .empty → s.tag k = tagOf (s.reg k)
  op : s.x87op &&& 0xF800 = 0
  memory : Memory.wf s.mem = true

/-! ## What a completed instruction leaves unchanged -/

/-- `t` is `s` after NORMAL completion, changed at most in the data registers, the tags, SW, the pointers and the counter of
draws. -/
def OnlyStack (s t : State) : Prop :=
  t = { s with
    regs := t.regs, tags := t.tags, sw := t.sw, fip := t.fip, fcs := t.fcs, fop := t.fop, fdp := t.fdp, fds := t.fds
    draws := t.draws, completion := .normal }

/-- `t` is `s` after NORMAL completion, changed at most as `OnlyStack` says and in memory. -/
def OnlyStackAndMem (s t : State) : Prop := OnlyStack { s with mem := t.mem } t

/-- `t` is `s` after NORMAL completion, changed at most as `OnlyStack` says and in EFLAGS. -/
def OnlyStackAndEflags (s t : State) : Prop := OnlyStack { s with eflags := t.eflags } t

/-- `t` is `s` after NORMAL completion, changed at most in SW and the counter of draws. -/
def OnlyStatus (s t : State) : Prop := t = { s with sw := t.sw, draws := t.draws, completion := .normal }

/-- The pointers after an instruction with no memory operand (R60). -/
def PointersReg (s t : State) : Prop :=
  t.fip = s.eip ∧ t.fcs = s.segs.cs.selector ∧ t.fop = s.x87op.setWidth 11 ∧ t.fdp = s.fdp ∧ t.fds = s.fds

/-- The pointers after an instruction with a memory operand (R60). -/
def PointersMem (s t : State) (m : MemOp) : Prop :=
  t.fip = s.eip ∧ t.fcs = s.segs.cs.selector ∧ t.fop = s.x87op.setWidth 11 ∧ t.fdp = (s.ref m).off ∧ t.fds = (s.ref m).sel

/-- The data registers, the tags and TOP are those of `s`. -/
def KeptStack (s t : State) : Prop := t.regs = s.regs ∧ t.tags = s.tags ∧ t.top = s.top

/-- A write of v to physical register k, then n pops (R36): k holds v, tagged by it, and no other contents change; TOP moves
up by n, and the n registers it passes are tagged empty. -/
def Wrote (n : Nat) (s t : State) (k : BitVec 3) (v : F80) : Prop :=
  t.top = s.top + BitVec.ofNat 3 n ∧
    ∀ j : BitVec 3,
      t.reg j = (if j = k then v else s.reg j) ∧
        t.tag j = if (j - s.top).toNat < n then .empty else if j = k then tagOf v else s.tag j

/-- n pops (R36): TOP moves up by n, the n registers it passes are tagged empty, and no contents change. -/
def Popped (n : Nat) (s t : State) : Prop :=
  t.top = s.top + BitVec.ofNat 3 n ∧
    ∀ j : BitVec 3, t.reg j = s.reg j ∧ t.tag j = if (j - s.top).toNat < n then .empty else s.tag j

/-- A push of v (R36): TOP moves down by one, and the register it then names holds v, tagged by it. -/
def Pushed (s t : State) (v : F80) : Prop :=
  t.top = s.top - 1 ∧
    ∀ j : BitVec 3,
      t.reg j = (if j = s.top - 1 then v else s.reg j) ∧ t.tag j = if j = s.top - 1 then tagOf v else s.tag j

/-- A write of v to ST(0), then a push of w (R36). -/
def WroteAndPushed (s t : State) (v w : F80) : Prop :=
  t.top = s.top - 1 ∧
    ∀ j : BitVec 3,
      t.reg j = (if j = s.top - 1 then w else if j = s.top then v else s.reg j) ∧
        t.tag j = if j = s.top - 1 then tagOf w else if j = s.top then tagOf v else s.tag j

/-- C1, bit 9 of SW. -/
def c1Of (sw : Word16) : Bool := sw.getLsbD 9

/-- C2, bit 10 of SW. -/
def c2Of (sw : Word16) : Bool := sw.getLsbD 10

/-- C3, C2 and C0 of SW. -/
def c320 (sw : Word16) : Bool × Bool × Bool := (sw.getLsbD 14, sw.getLsbD 10, sw.getLsbD 8)

/-- The exception flags, ES and B after flags e were raised: those of e that the instruction reaches are ORed in, and ES and
B are set if one of e is unmasked, else unchanged (spec/40_numerics.md R190, R175). -/
def Raised (s t : State) (e : Exc) : Prop :=
  t.sw &&& 0x007F = (s.sw &&& 0x007F) ||| (e.reached s.cw).toSw ∧
    swES t.sw = (swES s.sw || (e.unmasked s.cw).any) ∧
    t.sw.getLsbD 15 = (s.sw.getLsbD 15 || (e.unmasked s.cw).any)

/-- The flags of a numeric instruction, and its C1: 0 when an unmasked IE, DE or ZE without a stack fault keeps the result
from being delivered (R163, R250; notes/assumptions/13.md, and for the flags 37.md). -/
def NumericEnd (s t : State) (e : Exc) (c1 : Bool) : Prop :=
  Raised s t e ∧ c1Of t.sw = if (e.unmasked s.cw).pre && !e.sf then false else c1

/-- The `n` bytes at `a` hold the low bytes of `v`, and every other byte reads as in `s`. -/
def StoredAt (s t : State) (a : Word32) (n v : Nat) : Prop :=
  readLE t.mem a n = v % 256 ^ n ∧
    ∀ k : Nat, (∀ j, j < n → k ≠ (a + BitVec.ofNat 32 j).toNat) → readByte t.mem k = readByte s.mem k

/-- C3, C2 and C0 as FXAM and the compares write them (spec/44_compare.md R320, R336). -/
def Codes320 (t : State) (c3 c2 c0 : Bool) : Prop := c320 t.sw = (c3, c2, c0)

/-- One register-form instruction: it completes, with the flags and C1 of a result r, and `effect` when nothing of it is
suppressed; else the stack is unchanged. -/
def Completes (i : Instr) (s : State) (r : Exc × Bool) (effect : State → Prop) : Prop :=
  ∃ t, exec i s = .next t ∧ OnlyStack s t ∧ PointersReg s t ∧ NumericEnd s t r.1 r.2 ∧
    (Undisturbed s r.1 → effect t) ∧ (¬Undisturbed s r.1 → KeptStack s t)

/-- As `Completes`, for an instruction that reads memory. -/
def CompletesMem (i : Instr) (m : MemOp) (s : State) (r : Exc × Bool) (effect : State → Prop) : Prop :=
  ∃ t, exec i s = .next t ∧ OnlyStack s t ∧ PointersMem s t m ∧ NumericEnd s t r.1 r.2 ∧
    (Undisturbed s r.1 → effect t) ∧ (¬Undisturbed s r.1 → KeptStack s t)

/-- The instruction hands a CPU fault over and changes nothing else (spec/60_exceptions.md R431, R432). -/
def HandsOver (i : Instr) (s : State) (v : CpuVector) : Prop := exec i s = .next (s.raiseCpu v)

/-! ## Real values -/

/-- The real r is the magnitude `q * 2^g`. -/
def Scaled (q : Nat) (g : Int) (r : ℝ) : Prop := r = q * (2 : ℝ) ^ g

/-- The real r is the value v. -/
def Val.Is (v : Val) (r : ℝ) : Prop := ∃ a : ℝ, Scaled v.m v.e a ∧ r = if v.neg then -a else a

/-- The real r is what a `Mag` stands for. -/
def Mag.Stands (x : Mag) (r : ℝ) : Prop :=
  if x.sticky then x.m * (2 : ℝ) ^ x.e < r ∧ r < (x.m + 1) * (2 : ℝ) ^ x.e else Scaled x.m x.e r

end Sys2Proof.Machine
end

