-- ==== Sys2Proof/Certificates/Slice0/Obligations.lean ====
section
/-! DEFINITION. The statements for the provers, from the numbered rules of spec/. -/

namespace Sys2Proof.Machine

/-! ## The forms the statements speak of -/

/-- The register forms that R124 calls undefined: an escape byte, and the first and last second byte of a range. -/
def undefinedRegisterForms : List (Byte × Byte × Byte) :=
  [(0xD9, 0xD1, 0xD7), (0xD9, 0xE2, 0xE3), (0xD9, 0xE6, 0xE7), (0xD9, 0xEF, 0xEF), (0xDA, 0xE0, 0xE8),
    (0xDA, 0xEA, 0xFF), (0xDB, 0xE5, 0xE7), (0xDB, 0xF8, 0xFF), (0xDD, 0xF0, 0xFF), (0xDE, 0xD8, 0xD8),
    (0xDE, 0xDA, 0xDF), (0xDF, 0xE1, 0xE7), (0xDF, 0xF8, 0xFF)]

/-- The size of an environment or save image in bytes: 14 or 28, and 94 or 108 (R86, R87). -/
def imageSize (s : State) (save : Bool) : Nat :=
  match s.inp.opSize with
  | .o16 => if save then 94 else 14
  | .o32 => if save then 108 else 28

/-- The memory source of an instruction, and its width in bytes (R82, R86, R87). -/
def sourceOf (s : State) : Instr → Option (MemOp × Nat)
  | .fldM32fp m | .faddM32fp m | .fmulM32fp m | .fsubM32fp m | .fsubrM32fp m | .fdivM32fp m | .fdivrM32fp m | .fcomM32fp m
  | .fcompM32fp m | .fildM32int m | .fiaddM32int m | .fimulM32int m | .fisubM32int m | .fisubrM32int m | .fidivM32int m
  | .fidivrM32int m | .ficomM32int m | .ficompM32int m => some (m, 4)
  | .fldM64fp m | .faddM64fp m | .fmulM64fp m | .fsubM64fp m | .fsubrM64fp m | .fdivM64fp m | .fdivrM64fp m | .fcomM64fp m
  | .fcompM64fp m | .fildM64int m => some (m, 8)
  | .fildM16int m | .fiaddM16int m | .fimulM16int m | .fisubM16int m | .fisubrM16int m | .fidivM16int m | .fidivrM16int m
  | .ficomM16int m | .ficompM16int m | .fldcw m => some (m, 2)
  | .fldM80fp m | .fbld m => some (m, 10)
  | .fldenv m => some (m, imageSize s false)
  | .frstor m => some (m, imageSize s true)
  | _ => none

/-- A load from memory: the instruction, its width in bytes, and the value and the flags its image converts to. -/
structure LoadForm where
  instr : MemOp → Instr
  bytes : Nat
  value : State → Nat → F80 × Exc

/-- FLD (R200 to R202), FILD (R204 to R206) and FBLD (R207). An FBLD with an invalid digit loads a free value (R173). -/
def loadForms : List LoadForm :=
  [⟨.fldM32fp, 4, fun _ img => loadFp .m32 img⟩, ⟨.fldM64fp, 8, fun _ img => loadFp .m64 img⟩,
    ⟨.fldM80fp, 10, fun _ img => (BitVec.ofNat 80 img, Exc.clear)⟩, ⟨.fildM16int, 2, fun _ img => (loadInt 16 img, Exc.clear)⟩,
    ⟨.fildM32int, 4, fun _ img => (loadInt 32 img, Exc.clear)⟩, ⟨.fildM64int, 8, fun _ img => (loadInt 64 img, Exc.clear)⟩,
    ⟨.fbld, 10, fun s img => ((loadBcd img).getD (Config.freeResult s.draws), Exc.clear)⟩]

/-- The table of R221: an instruction, its second byte (R222 to R228), and its constant under RN, under RD and RZ, and under
RU. -/
def constantTable : List (Instr × Byte × F80 × F80 × F80) :=
  [(.fld1, 0xE8, 0x3FFF8000000000000000, 0x3FFF8000000000000000, 0x3FFF8000000000000000),
    (.fldl2t, 0xE9, 0x4000D49A784BCD1B8AFE, 0x4000D49A784BCD1B8AFE, 0x4000D49A784BCD1B8AFF),
    (.fldl2e, 0xEA, 0x3FFFB8AA3B295C17F0BC, 0x3FFFB8AA3B295C17F0BB, 0x3FFFB8AA3B295C17F0BC),
    (.fldpi, 0xEB, 0x4000C90FDAA22168C235, 0x4000C90FDAA22168C234, 0x4000C90FDAA22168C235),
    (.fldlg2, 0xEC, 0x3FFD9A209A84FBCFF799, 0x3FFD9A209A84FBCFF798, 0x3FFD9A209A84FBCFF799),
    (.fldln2, 0xED, 0x3FFEB17217F7D1CF79AC, 0x3FFEB17217F7D1CF79AB, 0x3FFEB17217F7D1CF79AC),
    (.fldz, 0xEE, 0, 0, 0)]

/-- A store to memory: the instruction, its width in bytes, its indefinite, its conversion, and how often it pops. -/
structure StoreForm where
  instr : MemOp → Instr
  bytes : Nat
  indefinite : Nat
  convert : State → F80 → StoreResult
  pops : Nat

/-- FST and FSTP (R208, R209, R211 to R213), FIST and FISTP (R215 to R219), and FBSTP (R220). -/
def storeForms : List StoreForm :=
  [⟨.fstM32fp, 4, 0xFFC00000, fun s v => storeFp s.cw s.params.tininess .m32 v, 0⟩,
    ⟨.fstM64fp, 8, 0xFFF8000000000000, fun s v => storeFp s.cw s.params.tininess .m64 v, 0⟩,
    ⟨.fstpM32fp, 4, 0xFFC00000, fun s v => storeFp s.cw s.params.tininess .m32 v, 1⟩,
    ⟨.fstpM64fp, 8, 0xFFF8000000000000, fun s v => storeFp s.cw s.params.tininess .m64 v, 1⟩,
    ⟨.fstpM80fp, 10, 0xFFFFC000000000000000, fun _ v => ⟨some v.toNat, Exc.clear, false⟩, 1⟩,
    ⟨.fistM16int, 2, 0x8000, fun s v => storeInt s.cw 16 v, 0⟩, ⟨.fistM32int, 4, 0x80000000, fun s v => storeInt s.cw 32 v, 0⟩,
    ⟨.fistpM16int, 2, 0x8000, fun s v => storeInt s.cw 16 v, 1⟩,
    ⟨.fistpM32int, 4, 0x80000000, fun s v => storeInt s.cw 32 v, 1⟩,
    ⟨.fistpM64int, 8, 0x8000000000000000, fun s v => storeInt s.cw 64 v, 1⟩,
    ⟨.fbstp, 10, 0xFFFFC000000000000000, fun s v => storeBcd s.cw v, 1⟩]

/-- What a store writes: the conversion of ST(0), or the indefinite with IE and SF when ST(0) is empty (R176). -/
def StoreForm.result (f : StoreForm) (s : State) : StoreResult :=
  if s.isEmpty 0 then ⟨some f.indefinite, Exc.stackFault, false⟩ else f.convert s (s.st 0)

/-- The write and the pop of a store go ahead: no IE, DE, ZE, OE or UE of it is unmasked (R190). -/
def StoreForm.goesAhead (f : StoreForm) (s : State) : Prop :=
  let u := (f.result s).exc.unmasked s.cw
  u.pre = false ∧ u.oe = false ∧ u.ue = false

/-- The encodings of R231 to R238 (the escape byte, and the second byte for i = 0), and their conditions on CF (bit 0), PF
(bit 2) and ZF (bit 6). -/
def moveConditions (i : BitVec 3) : List (Instr × (Byte × Byte) × (Word32 → Bool)) :=
  [(.fcmovb i, (0xDA, 0xC0), fun f => f.getLsbD 0), (.fcmove i, (0xDA, 0xC8), fun f => f.getLsbD 6),
    (.fcmovbe i, (0xDA, 0xD0), fun f => f.getLsbD 0 || f.getLsbD 6), (.fcmovu i, (0xDA, 0xD8), fun f => f.getLsbD 2),
    (.fcmovnb i, (0xDB, 0xC0), fun f => !f.getLsbD 0), (.fcmovne i, (0xDB, 0xC8), fun f => !f.getLsbD 6),
    (.fcmovnbe i, (0xDB, 0xD0), fun f => !f.getLsbD 0 && !f.getLsbD 6), (.fcmovnu i, (0xDB, 0xD8), fun f => !f.getLsbD 2)]

/-- A register form of the arithmetic: the operation, whether it is reversed, the destination, the source, and the pops. -/
structure ArithForm where
  instr : Instr
  op : ArithOp
  reversed : Bool
  dst : BitVec 3
  src : BitVec 3
  pops : Nat

/-- The register forms of R252 to R293. -/
def arithForms (i : BitVec 3) : List ArithForm :=
  [⟨.faddSt0Sti i, .add, false, 0, i, 0⟩, ⟨.faddStiSt0 i, .add, false, i, 0, 0⟩, ⟨.faddp i, .add, false, i, 0, 1⟩,
    ⟨.fmulSt0Sti i, .mul, false, 0, i, 0⟩, ⟨.fmulStiSt0 i, .mul, false, i, 0, 0⟩, ⟨.fmulp i, .mul, false, i, 0, 1⟩,
    ⟨.fsubSt0Sti i, .sub, false, 0, i, 0⟩, ⟨.fsubStiSt0 i, .sub, false, i, 0, 0⟩, ⟨.fsubp i, .sub, false, i, 0, 1⟩,
    ⟨.fsubrSt0Sti i, .sub, true, 0, i, 0⟩, ⟨.fsubrStiSt0 i, .sub, true, i, 0, 0⟩, ⟨.fsubrp i, .sub, true, i, 0, 1⟩,
    ⟨.fdivSt0Sti i, .div, false, 0, i, 0⟩, ⟨.fdivStiSt0 i, .div, false, i, 0, 0⟩, ⟨.fdivp i, .div, false, i, 0, 1⟩,
    ⟨.fdivrSt0Sti i, .div, true, 0, i, 0⟩, ⟨.fdivrStiSt0 i, .div, true, i, 0, 0⟩, ⟨.fdivrp i, .div, true, i, 0, 1⟩]

/-- A memory form of the arithmetic: the operation, whether it is reversed, the width in bytes, and the source operand. -/
structure MemArithForm where
  instr : MemOp → Instr
  op : ArithOp
  reversed : Bool
  bytes : Nat
  source : Nat → Operand

/-- The memory forms of R252 to R293: m32fp, m64fp, m32int and m16int. -/
def memArithForms : List MemArithForm :=
  let w32 := widenFp .m32
  let w64 := widenFp .m64
  let i32 := fun img => (⟨loadInt 32 img, false⟩ : Operand)
  let i16 := fun img => (⟨loadInt 16 img, false⟩ : Operand)
  [⟨.faddM32fp, .add, false, 4, w32⟩, ⟨.faddM64fp, .add, false, 8, w64⟩, ⟨.fiaddM32int, .add, false, 4, i32⟩,
    ⟨.fiaddM16int, .add, false, 2, i16⟩, ⟨.fmulM32fp, .mul, false, 4, w32⟩, ⟨.fmulM64fp, .mul, false, 8, w64⟩,
    ⟨.fimulM32int, .mul, false, 4, i32⟩, ⟨.fimulM16int, .mul, false, 2, i16⟩, ⟨.fsubM32fp, .sub, false, 4, w32⟩,
    ⟨.fsubM64fp, .sub, false, 8, w64⟩, ⟨.fisubM32int, .sub, false, 4, i32⟩, ⟨.fisubM16int, .sub, false, 2, i16⟩,
    ⟨.fsubrM32fp, .sub, true, 4, w32⟩, ⟨.fsubrM64fp, .sub, true, 8, w64⟩, ⟨.fisubrM32int, .sub, true, 4, i32⟩,
    ⟨.fisubrM16int, .sub, true, 2, i16⟩, ⟨.fdivM32fp, .div, false, 4, w32⟩, ⟨.fdivM64fp, .div, false, 8, w64⟩,
    ⟨.fidivM32int, .div, false, 4, i32⟩, ⟨.fidivM16int, .div, false, 2, i16⟩, ⟨.fdivrM32fp, .div, true, 4, w32⟩,
    ⟨.fdivrM64fp, .div, true, 8, w64⟩, ⟨.fidivrM32int, .div, true, 4, i32⟩, ⟨.fidivrM16int, .div, true, 2, i16⟩]

/-- The instructions that replace ST(0) by a function of it (R294 to R297, R307). -/
def unaryForms : List (Instr × (State → F80 → Result)) :=
  [(.fabs, fun _ a => ⟨a &&& ~~~(BitVec.twoPow 80 79), Exc.clear, false⟩),
    (.fchs, fun _ a => ⟨a ^^^ BitVec.twoPow 80 79, Exc.clear, false⟩),
    (.fsqrt, fun s a => sqrtResult (s.numCtx s.precision) a), (.frndint, fun s a => rndintResult (s.numCtx 64) a),
    (.f2xm1, fun s a => exp2m1Result s.draw (s.numCtx 64) a)]

/-- The instructions on x = ST(0) and y = ST(1) whose result replaces ST(1) before a pop (R308, R309, R311). -/
def twoOperandForms : List (Instr × (State → F80 → F80 → Result)) :=
  [(.fyl2x, fun s x y => yl2xResult (s.numCtx 64) x y), (.fyl2xp1, fun s x y => yl2xp1Result s.draw (s.numCtx 64) x y),
    (.fpatan, fun s x y => patanResult (s.numCtx 64) x y)]

/-- `|val(x)| ≥ 2^63` for a FINITE x, by its biased exponent (R151, R306). -/
def beyondTrigRange (x : F80) : Prop := isFinite x = true ∧ 0x403E ≤ expOf x

/-- C3, C2 and C0 of a relation (R320). -/
def relBits : Rel → Bool × Bool × Bool
  | .gt => (false, false, false)
  | .lt => (false, false, true)
  | .eq => (true, false, false)
  | .unordered => (true, true, true)

/-- A compare to the condition codes: the relation to SW unless an unmasked IE or DE keeps it from being written, C1 = 0,
and the pops (R320). -/
def ComparesTo (s t : State) (r : Rel × Exc) (pops : Nat) : Prop :=
  Raised s t r.2 ∧ c1Of t.sw = false ∧
    (Undisturbed s r.2 → c320 t.sw = relBits r.1 ∧ Popped pops s t) ∧
    (¬Undisturbed s r.2 → c320 t.sw = c320 s.sw ∧ KeptStack s t)

/-- The register compares to the condition codes: whether a QNaN raises IE, the right operand, and the pops (R323 to R329,
R335). -/
def compareForms (i : BitVec 3) : List (Instr × Bool × BitVec 3 × Nat) :=
  [(.fcomSt i, true, i, 0), (.fcom2St i, true, i, 0), (.fcompSt i, true, i, 1), (.fcomp3St i, true, i, 1),
    (.fcomp5St i, true, i, 1), (.fcompp, true, 1, 2), (.fucom i, false, i, 0), (.fucomp i, false, i, 1), (.fucompp, false, 1, 2)]

/-- The memory compares: the width in bytes, the right operand, and the pops (R321, R322, R324, R325, R338 to R341). -/
def memCompareForms : List ((MemOp → Instr) × Nat × (Nat → Operand) × Nat) :=
  [(.fcomM32fp, 4, widenFp .m32, 0), (.fcomM64fp, 8, widenFp .m64, 0), (.fcompM32fp, 4, widenFp .m32, 1),
    (.fcompM64fp, 8, widenFp .m64, 1), (.ficomM16int, 2, fun img => ⟨loadInt 16 img, false⟩, 0),
    (.ficomM32int, 4, fun img => ⟨loadInt 32 img, false⟩, 0), (.ficompM16int, 2, fun img => ⟨loadInt 16 img, false⟩, 1),
    (.ficompM32int, 4, fun img => ⟨loadInt 32 img, false⟩, 1)]

/-- The compares to EFLAGS (R331 to R334): whether a QNaN raises IE, and the pops. -/
def eflagsCompareForms (i : BitVec 3) : List (Instr × Bool × Nat) :=
  [(.fcomi i, true, 0), (.fcomip i, true, 1), (.fucomi i, false, 0), (.fucomip i, false, 1)]

/-- The class code C3, C2, C0 of R336's table; empty is told by the tag alone. -/
def examineCode (empty : Bool) (v : F80) : Bool × Bool × Bool :=
  if empty then (true, false, true)
  else if isUnsupported v then (false, false, false)
  else if isNan v then (false, false, true)
  else if isInf v then (false, true, true)
  else if isZero v then (true, false, false)
  else if isDenormal v then (true, true, false)
  else (false, true, false)

/-- The two bits of a tag (R34). -/
def tagCode : Tag → BitVec 2
  | .valid => 0b00
  | .zero => 0b01
  | .special => 0b10
  | .empty => 0b11

/-- The tag word: bits 2k+1:2k are the tag of R[k] (R34). -/
def tagImage (s : State) : Word16 :=
  tagCode (s.tag 7) ++ tagCode (s.tag 6) ++ tagCode (s.tag 5) ++ tagCode (s.tag 4) ++ tagCode (s.tag 3) ++ tagCode (s.tag 2) ++
    tagCode (s.tag 1) ++ tagCode (s.tag 0)

/-- The environment image, offset by offset: the 16-bit protected, 16-bit real, 32-bit protected and 32-bit real layouts; the
real ones hold in VM86 too (R86, R381). -/
def environmentImage (s : State) : List Field :=
  let ipl : Word32 := (s.fcs.setWidth 32 <<< 4) + s.fip
  let dpl : Word32 := (s.fds.setWidth 32 <<< 4) + s.fdp
  let w := fun (off : Nat) (v : Word16) => (⟨off, 2, v.toNat⟩ : Field)
  let d := fun (off : Nat) (v : Word32) => (⟨off, 4, v.toNat⟩ : Field)
  let high : Word16 := 0xFFFF
  match s.inp.opSize, decide (s.mode = .prot) with
  | .o16, true =>
    [w 0 s.cw, w 2 s.sw, w 4 (tagImage s), w 6 (s.fip.extractLsb' 0 16), w 8 s.fcs, w 10 (s.fdp.extractLsb' 0 16), w 12 s.fds]
  | .o16, false =>
    [w 0 s.cw, w 2 s.sw, w 4 (tagImage s), w 6 (ipl.extractLsb' 0 16), w 8 (ipl.extractLsb' 16 4 ++ 0#1 ++ s.fop),
      w 10 (dpl.extractLsb' 0 16), w 12 (dpl.extractLsb' 16 4 ++ 0#12)]
  | .o32, true =>
    [d 0 (high ++ s.cw), d 4 (high ++ s.sw), d 8 (high ++ tagImage s), d 12 s.fip, d 16 (0#5 ++ s.fop ++ s.fcs), d 20 s.fdp,
      d 24 (high ++ s.fds)]
  | .o32, false =>
    [d 0 (high ++ s.cw), d 4 (high ++ s.sw), d 8 (high ++ tagImage s), d 12 (high ++ ipl.extractLsb' 0 16),
      d 16 (0#4 ++ ipl.extractLsb' 16 16 ++ 0#1 ++ s.fop), d 20 (high ++ dpl.extractLsb' 0 16),
      d 24 (0#4 ++ dpl.extractLsb' 16 16 ++ 0#12)]

/-- The fields that FNSTENV and FNSAVE store: the environment, and for FNSAVE then ST(0) to ST(7), whatever their tags (R87). -/
def imageOf (s : State) (save : Bool) : List Field :=
  environmentImage s ++
    if save then (List.range 8).map fun i => ⟨imageSize s false + 10 * i, 10, (s.st (BitVec.ofNat 3 i)).toNat⟩ else []

/-- Memory after the first k fields of an image. -/
def afterFields (s : State) (m : MemOp) (fields : List Field) (k : Nat) : List Host.Cell :=
  (fields.take k).foldl (fun mem f => writeLE mem (s.addr m + BitVec.ofNat 32 f.off) f.len f.value) s.mem

/-- The environment that FLDENV and FRSTOR read, by the same four layouts (R86, R382). -/
def envAt (s : State) (m : MemOp) : Env :=
  let w := fun off : Nat => BitVec.ofNat 16 (readLE s.mem (s.addr m + BitVec.ofNat 32 off) 2)
  let d := fun off : Nat => BitVec.ofNat 32 (readLE s.mem (s.addr m + BitVec.ofNat 32 off) 4)
  match s.inp.opSize, decide (s.mode = .prot) with
  | .o16, true => ⟨w 0, w 2, w 4, 0#16 ++ w 6, w 8, 0, 0#16 ++ w 10, w 12⟩
  | .o16, false =>
    ⟨w 0, w 2, w 4, 0#12 ++ (w 8).extractLsb' 12 4 ++ w 6, 0, (w 8).extractLsb' 0 11,
      0#12 ++ (w 12).extractLsb' 12 4 ++ w 10, 0⟩
  | .o32, true =>
    ⟨(d 0).extractLsb' 0 16, (d 4).extractLsb' 0 16, (d 8).extractLsb' 0 16, d 12, (d 16).extractLsb' 0 16,
      (d 16).extractLsb' 16 11, d 20, (d 24).extractLsb' 0 16⟩
  | .o32, false =>
    ⟨(d 0).extractLsb' 0 16, (d 4).extractLsb' 0 16, (d 8).extractLsb' 0 16,
      (d 16).extractLsb' 12 16 ++ (d 12).extractLsb' 0 16, 0, (d 16).extractLsb' 0 11,
      (d 24).extractLsb' 12 16 ++ (d 20).extractLsb' 0 16, 0⟩

/-- R383: CW in its canonical form, SW with ES and B recomputed, each tag empty where the image says so and else that of the
register's contents, the pointers. -/
def Installed (t : State) (e : Env) : Prop :=
  t.cw = (e.cw &&& 0x1F3F) ||| 0x0040 ∧ t.sw &&& 0x7F7F = e.sw &&& 0x7F7F ∧
    (swES t.sw = true ↔ e.sw &&& ~~~t.cw &&& 0x003F ≠ 0) ∧ t.sw.getLsbD 15 = swES t.sw ∧
    (∀ k : BitVec 3, t.tag k = if e.tw.extractLsb' (2 * k.toNat) 2 = 3 then .empty else tagOf (t.reg k)) ∧
    t.fip = e.fip ∧ t.fcs = e.fcs ∧ t.fop = e.fop ∧ t.fdp = e.fdp ∧ t.fds = e.fds

/-! ## Numbers -/

/-- The infinities and the zeros (R151). -/
def infinityOf (neg : Bool) : F80 := if neg then 0xFFFF8000000000000000 else 0x7FFF8000000000000000
def zeroOf (neg : Bool) : F80 := if neg then 0x80000000000000000000 else 0

/-- The pattern v is FINITE with the value r (R151). -/
def Holds (v : F80) (r : ℝ) : Prop := isFinite v = true ∧ (valOf v).Is r

/-- The integer n is `RNDINT_RC` of the real x (R174). -/
def RoundsInt (rc : RC) (x : ℝ) (n : ℤ) : Prop :=
  match rc with
  | .rn => |x - n| ≤ 1 / 2 ∧ (|x - n| = 1 / 2 → n % 2 = 0)
  | .rd => n = ⌊x⌋
  | .ru => n = ⌈x⌉
  | .rz => (0 ≤ x → n = ⌊x⌋) ∧ (x ≤ 0 → n = ⌈x⌉)

/-- The multiple `q * 2^g` of `2^g` is the one RC and the sign choose for the magnitude r (R158), within one unit of it, and
within half a unit, ties to even, under RN; `inexact` says that it differs from r, and `up` that it exceeds r. -/
def RoundsAt (rc : RC) (neg : Bool) (r : ℝ) (y : Rounded) : Prop :=
  let v : ℝ := y.q * (2 : ℝ) ^ y.g
  let u : ℝ := (2 : ℝ) ^ y.g
  |v - r| < u ∧ (y.inexact = true ↔ v ≠ r) ∧ (y.up = true ↔ r < v) ∧
    match rc with
    | .rn => |v - r| ≤ u / 2 ∧ (|v - r| = u / 2 → y.q % 2 = 0)
    | .rz => v ≤ r
    | .rd => if neg then r ≤ v else v ≤ r
    | .ru => if neg then v ≤ r else r ≤ v

/-- `round_p,RC` of r (R158): as `RoundsAt`, with the unit of F(p, emin) at r, which is that of the denormals where r is below
the normal numbers, and else the one in which r has p bits (R157). -/
def RoundsIn (f : Fmt) (rc : RC) (neg : Bool) (r : ℝ) (y : Rounded) : Prop :=
  f.emin - (f.p - 1) ≤ y.g ∧ (y.g = f.emin - (f.p - 1) ∨ (2 : ℝ) ^ (f.p - 1) * (2 : ℝ) ^ y.g ≤ r) ∧
    r < (2 : ℝ) ^ f.p * (2 : ℝ) ^ y.g ∧ RoundsAt rc neg r y

/-- `round'` of r (R161): as `RoundsIn`, with no lower bound on the exponent. -/
def RoundsUnbounded (f : Fmt) (rc : RC) (neg : Bool) (r : ℝ) (y : Rounded) : Prop :=
  (2 : ℝ) ^ (f.p - 1) * (2 : ℝ) ^ y.g ≤ r ∧ r < (2 : ℝ) ^ f.p * (2 : ℝ) ^ y.g ∧ RoundsAt rc neg r y

/-- The real r is tiny (R161); under AFTER_ROUNDING `round'` of it is y. -/
def Tiny (t : Tininess) (f : Fmt) (r : ℝ) (y : Rounded) : Prop :=
  match t with
  | .beforeRounding => r < (2 : ℝ) ^ f.emin
  | .afterRounding => (y.q : ℝ) * (2 : ℝ) ^ y.g < (2 : ℝ) ^ f.emin

/-- The integer n stored for the real x: its image, PE when they differ, and C1 when n is larger in magnitude (R171). -/
def StoresInt (r : StoreResult) (image : Nat) (x : ℝ) (n : ℤ) : Prop :=
  r.bits = some image ∧ r.exc = { pe := r.exc.pe } ∧ (r.exc.pe = true ↔ (n : ℝ) ≠ x) ∧ (r.c1 = true ↔ |x| < |(n : ℝ)|)

/-- `Σ d_j * base^j` of a list of digits, d0 first (R84). -/
def placeValue (base : Nat) : List Nat → Nat
  | [] => 0
  | d :: ds => d + base * placeValue base ds

/-- The m80bcd image of a sign, the ignored bits 6:0 of byte 9, and 18 digits (R84). -/
def bcdImage (neg : Bool) (ignored : Nat) (ds : List Nat) : Nat :=
  (if neg then 2 ^ 79 else 0) + ignored * 2 ^ 72 + placeValue 16 ds

/-- A multiple of π rounded under RC (R311): `down` is its pattern truncated, and in each of them the next bit is 1. -/
def piRounded (rc : RC) (neg : Bool) (down : F80) : Result :=
  let up : Bool := match rc with
    | .rn => true
    | .rd => neg
    | .ru => !neg
    | .rz => false
  ⟨zeroOf neg ||| (down + if up then 1 else 0), { pe := true }, up⟩

end Sys2Proof.Machine

open Sys2Proof Sys2Proof.Machine

/-! ## Encoding -/

/-- Decoding what the encoder writes gives the instruction back, with every operand, whatever follows
(spec/30_encoding.md R118, R120 to R124). -/
def Obligations.DecodeEncode : Prop :=
  ∀ (i : Instr) (a : AddrSize) (rest : List Byte),
    i.wf = true → i.fits a = true → decode a (encode i ++ rest) = .ok ⟨i, (encode i).length⟩

/-- An instruction the decoder gives is well formed, belongs to the address size, and encodes to the very bytes it was read
from: no two byte sequences of one length are the same instruction, and its length is that of its bytes (R121). -/
def Obligations.EncodeDecode : Prop :=
  ∀ (a : AddrSize) (bs : List Byte) (d : Decoded),
    decode a bs = .ok d →
      d.instr.wf = true ∧ d.instr.fits a = true ∧ d.len ≤ bs.length ∧ encode d.instr = bs.take d.len

/-- Words written out from the spec's tables decode to the instructions they stand for. -/
def Obligations.DecodeWords : Prop :=
  decode .a16 [0xD8, 0b11000011] = .ok ⟨.faddSt0Sti 3, 2⟩ ∧
  decode .a16 [0xDC, 0b11100010] = .ok ⟨.fsubrStiSt0 2, 2⟩ ∧
  decode .a16 [0xDE, 0b11101001] = .ok ⟨.fsubp 1, 2⟩ ∧
  decode .a16 [0xD9, 0b11110010] = .ok ⟨.fptan, 2⟩ ∧
  decode .a16 [0xDB, 0b11110101] = .ok ⟨.fcomi 5, 2⟩ ∧
  decode .a16 [0xDF, 0b11100000] = .ok ⟨.fnstswAx, 2⟩ ∧
  decode .a16 [0xD9, 0b01000111, 0xF0] = .ok ⟨.fldM32fp (.ind16 .bx (.d8 0xF0)), 3⟩ ∧
  decode .a16 [0xDB, 0b00101110, 0x34, 0x12] = .ok ⟨.fldM80fp (.abs16 0x1234), 4⟩ ∧
  decode .a32 [0xDD, 0b10110100, 0b10001011, 4, 3, 2, 1] = .ok ⟨.fnsave (.sib 2 .ecx .ebx (.d32 0x01020304)), 7⟩ ∧
  decode .a32 [0xD9, 0b00101100, 0b11000101, 1, 0, 0, 0] = .ok ⟨.fldcw (.sibAbs 3 .eax 1), 7⟩ ∧
  decode .a16 [0x9B] = .ok ⟨.wait, 1⟩

/-- The undefined encodings, which the decoder rejects by name, are the seven memory forms of R127 and the register forms
that R124 calls undefined; no other bytes after an escape byte are (R116, R126). -/
def Obligations.UndefinedForms : Prop :=
  (∀ (a : AddrSize) (esc modrm : Byte) (rest rest' : List Byte) (m : MemOp),
    isEscape esc = true → modOf modrm ≠ 3 → memOp a (modOf modrm) (rmOf modrm) rest = some (m, rest') →
      ((∃ n, decode a (esc :: modrm :: rest) = .error (.undefined esc modrm n)) ↔
        (escOf esc, regOf modrm) ∈ ([(1, 1), (3, 1), (5, 1), (7, 1), (3, 4), (3, 6), (5, 5)] : List (BitVec 3 × BitVec 3)))) ∧
  ∀ (a : AddrSize) (esc modrm : Byte) (rest : List Byte),
    isEscape esc = true → modOf modrm = 3 →
      (decode a (esc :: modrm :: rest) = .error (.undefined esc modrm 2) ↔
        ∃ x ∈ undefinedRegisterForms, esc = x.1 ∧ x.2.1 ≤ modrm ∧ modrm ≤ x.2.2)

/-! ## Reset -/

/-- The values at hardware reset, for both columns of R71, where `draw` stands for any value, at power-on and after the CPU's
RESET of any state. -/
def Obligations.ResetValues : Prop :=
  ∀ (prior : State) (regs : Vector F80 8) (op : BitVec 11),
    (∀ (rs : ResetState), ∀ s ∈ [State.resetOf rs regs op, prior.hardwareReset rs regs op],
      s.sw = 0x0000 ∧ s.fip = 0 ∧ s.fcs = 0 ∧ s.fop = 0 ∧ s.fdp = 0 ∧ s.fds = 0 ∧ s.neReq = false ∧
        s.x87op = op.setWidth 16) ∧
    (∀ s ∈ [State.resetOf .fninitLike regs op, prior.hardwareReset .fninitLike regs op],
      s.cw = 0x037F ∧ s.tagWord = 0xFFFF ∧ s.regs = regs) ∧
    ∀ s ∈ [State.resetOf .intelReset regs op, prior.hardwareReset .intelReset regs op],
      s.cw = 0x0040 ∧ s.tagWord = 0x5555 ∧ ∀ k : BitVec 3, s.reg k = 0

/-! ## The invariant -/

/-- Every reset state has the invariant; the state `reset` is one of those of the INTEL_RESET column (the choice of the
column and of `x87_op` is the model's, notes/assumptions/1.md and 3.md), and in it CR0 lets the instructions run and no IRQ
13 is requested. The CPU's RESET of a running machine (notes/assumptions/41.md) leaves memory and the IRQ 13 request
untouched, and keeps the invariant (spec/70_reset_and_hazards.md R461). -/
def Obligations.ResetInv : Prop :=
  (∀ (rs : ResetState) (regs : Vector F80 8) (op : BitVec 11), Inv (State.resetOf rs regs op)) ∧
  (∃ (regs : Vector F80 8) (op : BitVec 11), State.reset = State.resetOf .intelReset regs op) ∧
  State.reset.cr0 = 0x60000010 ∧ State.reset.irq13 = 0 ∧ Ready .waiting State.reset ∧
  ∀ (rs : ResetState) (regs : Vector F80 8) (op : BitVec 11) (s : State),
    let t := s.hardwareReset rs regs op
    (∀ a : Nat, readByte t.mem a = readByte s.mem a) ∧ t.irq13 = s.irq13 ∧ t.cr0 = 0x60000010 ∧ (Inv s → Inv t)

/-- Every step keeps the invariant: ES and B summarise the unmasked flags (R40), CW has its canonical form (R46), a non-empty
register is tagged by its contents (R35), `x87_op` has 11 bits (R48), and memory is in canonical form. -/
def Obligations.StepKeepsInv : Prop :=
  ∀ s t : State, Inv s → step s = .next t → Inv t

/-! ## One step -/

/-- Where the bytes at EIP, after the prefixes p, decode to an instruction that the parameters admit, the step is exec of
that instruction, in the state with the inputs of the prefixes and with `x87_op` recorded, and then EIP moves on as
`resumeOutcome` says. -/
def Obligations.StepRunsDecoded : Prop :=
  ∀ (s : State) (p : Prefixes) (bs : List Byte) (d : Decoded),
    s.cpuFault = none → s.mfDue = false → takePrefixes {} s.fetch = (p, bs) → decode (p.addr s.code32) bs = .ok d →
      available s.params d.instr = true →
        step s = resumeOutcome s.irq13 (p.len + d.len) (exec d.instr (s.latch (p.inputs s.code32) (recordedOp bs)))

/-- EIP after a step that runs an instruction of `len` bytes (R57, R428): past the instruction after NORMAL completion, and
after an IRQ 13 report under IRQ13_RESUME = NEXT, wrapping at the code segment's width; else unchanged. -/
def Obligations.StepMovesEip : Prop :=
  ∀ (s t : State) (i : Instr) (inp : Inputs) (op : Option Word16) (len : Nat),
    s.cpuFault = none → s.mfDue = false → s.plan = .run i inp op len → step s = .next t →
      t.eip =
        if t.completion = .normal ∨ (t.irq13 ≠ s.irq13 ∧ s.params.irq13Resume = .next) then
          if s.code32 then s.eip + BitVec.ofNat 32 len else (s.eip.setWidth 16 + BitVec.ofNat 16 len).setWidth 32
        else s.eip

/-- The decoder's side effect: the step of an escape instruction, run or turned into #UD, leaves `x87_op` equal to
`((opcode & 7) << 8) | modrm` (R112), and WAIT does not write it (R48). That `x87_op` keeps the new value also where the
instruction ends ABNORMAL is the model's choice (notes/assumptions/28.md). -/
def Obligations.RecordsOp : Prop :=
  (∀ (s t : State) (p : Prefixes) (esc modrm : Byte) (rest : List Byte),
    s.cpuFault = none → s.mfDue = false → takePrefixes {} s.fetch = (p, esc :: modrm :: rest) → isEscape esc = true →
      step s = .next t → t.x87op = ((esc &&& 7).setWidth 16 <<< 8) ||| modrm.setWidth 16) ∧
  ∀ (s t : State) (p : Prefixes) (rest : List Byte),
    s.cpuFault = none → s.mfDue = false → takePrefixes {} s.fetch = (p, 0x9B :: rest) → step s = .next t →
      t.x87op = s.x87op

/-- The deferred request (R426): under the reference value of MF_DELIVERY the next step clears NE_REQ and hands over vector
16 with the saved EIP at the reporting instruction's first byte; nothing else changes but the completion code. A state that
holds a fault handed over has no further step (the model's choice, notes/assumptions/7.md). -/
def Obligations.DeferredRequest : Prop :=
  (∀ s : State, s.cpuFault = none → s.neReq = true → s.params.mfDelivery = .nextBoundary →
    step s = .next { s with
      neReq := false
      cpuFault := some ⟨.floatingPoint, s.segs.cs.selector, s.eip⟩
      completion := .abnormal }) ∧
  ∀ (s : State) (f : CpuFault), s.cpuFault = some f → step s = .fault (.handedToCpu f.vector)

/-- An undefined encoding, or a row the parameters take out of the table (R126): with a LOCK prefix #UD (R415), else as
UNDEF_ESC says, REFUSE (where the list names nothing), NOP, which is FNOP, UD, or ALIAS, which executes the named row with the
encoding's own ST(i) or memory operand. That `x87_op` is recorded also where #UD ends the instruction ABNORMAL, and which
operand an ALIAS takes, are the model's choices (notes/assumptions/28.md and 24.md). -/
def Obligations.UndefinedEncodings : Prop :=
  ∀ (s : State) (p : Prefixes) (esc modrm : Byte) (rest : List Byte) (len : Nat),
    s.cpuFault = none → s.mfDue = false → takePrefixes {} s.fetch = (p, esc :: modrm :: rest) →
      (decode (p.addr s.code32) (esc :: modrm :: rest) = .error (.undefined esc modrm len) ∨
        ∃ i, decode (p.addr s.code32) (esc :: modrm :: rest) = .ok ⟨i, len⟩ ∧ available s.params i = false) →
      let u := s.latch (p.inputs s.code32) (some (x87OpOf esc modrm))
      let behaviour := s.params.undefEsc.lookup (esc ++ modrm)
      (p.lock = true → step s = .next (u.raiseCpu .invalidOpcode)) ∧
      (p.lock = false →
        (behaviour = none → step s = .refused (.undefinedEncoding esc modrm)) ∧
        (behaviour = some .refuse → step s = .refused (.undefinedEncoding esc modrm)) ∧
        (behaviour = some .nop → step s = resumeOutcome s.irq13 (p.len + len) (exec .fnop u)) ∧
        (behaviour = some .ud → step s = .next (u.raiseCpu .invalidOpcode)) ∧
        ∀ row, behaviour = some (.likeRow row) →
          ∃ i, step s = resumeOutcome s.irq13 (p.len + len) (exec i u) ∧
            (row = .wait → i = .wait) ∧
            (∀ e r rm, opcodeOf row = .reg e r rm → i = withSt (rmOf modrm) row) ∧
            ∀ e r m, opcodeOf row = .mem e r m →
              (modOf modrm = 3 → i = row) ∧
              ∀ m' rest', modOf modrm ≠ 3 → memOp (p.addr s.code32) (modOf modrm) (rmOf modrm) rest = some (m', rest') →
                opcodeOf i = .mem e r m')

/-! ## Entry -/

/-- R415: an escape instruction with a LOCK prefix raises #UD before any other check, and changes no FPU state. -/
def Obligations.LockFaults : Prop :=
  ∀ (i : Instr) (s : State), i ≠ .wait → s.inp.lock = true →
    exec i s = .next { s with
      cpuFault := some ⟨.invalidOpcode, s.segs.cs.selector, s.eip⟩
      completion := .abnormal }

/-- R421: with CR0.EM or CR0.TS set an escape instruction raises #NM, and nothing else changes. -/
def Obligations.DeviceNotAvailable : Prop :=
  ∀ (i : Instr) (s : State), i ≠ .wait → s.inp.lock = false → s.cr0 &&& 0xC ≠ 0 →
    exec i s = .next { s with
      cpuFault := some ⟨.deviceNotAvailable, s.segs.cs.selector, s.eip⟩
      completion := .abnormal }

/-- R422 to R424: a waiting escape instruction that finds ES set does not execute; it sets NE_REQ when CR0.NE is set, and else
calls picint(13), and ends ABNORMAL with nothing else changed. -/
def Obligations.PendingReported : Prop :=
  ∀ (i : Instr) (s : State), i ≠ .wait → isNonwaiting i = false → s.inp.lock = false → s.cr0 &&& 0xC = 0 →
    s.params.softfloat = true → swES s.sw = true →
      (s.cr0 &&& 0x20 ≠ 0 → exec i s = .next { s with neReq := true, completion := .abnormal }) ∧
      (s.cr0 &&& 0x20 = 0 → exec i s = .next { s with irq13 := s.irq13 + 1, completion := .abnormal })

/-- R434: the nonwaiting instructions never report, and with ES set each of them still runs. -/
def Obligations.NonwaitingNeverReports : Prop :=
  ∀ (i : Instr) (s : State), isNonwaiting i = true →
    (∀ t, exec i s = .next t → t.neReq = s.neReq ∧ t.irq13 = s.irq13) ∧
    (s.inp.lock = false → s.cr0 &&& 0xC = 0 → s.params.softfloat = true → s.faultMap = [] →
      ∃ t, exec i s = .next t ∧ t.completion = .normal)

/-- In software mode every instruction has a next state, whatever the state and the operands; WAIT has one in either mode, and
in native mode an escape instruction with no fault of its own is refused (notes/assumptions/11.md). -/
def Obligations.EveryInstructionRuns : Prop :=
  (∀ (i : Instr) (s : State), s.params.softfloat = true → ∃ t, exec i s = .next t) ∧
  (∀ s : State, ∃ t, exec .wait s = .next t) ∧
  ∀ (i : Instr) (s : State), i ≠ .wait → s.params.softfloat = false → s.inp.lock = false → s.cr0 &&& 0xC = 0 →
    exec i s = .refused .nativePassthrough

/-- R401, the five rows of the table: WAIT's outcomes, with nothing else changed. -/
def Obligations.WaitTable : Prop :=
  ∀ s : State,
    (s.cr0 &&& 0xA = 0xA →
      exec .wait s = .next { s with
        cpuFault := some ⟨.deviceNotAvailable, s.segs.cs.selector, s.eip⟩
        completion := .abnormal }) ∧
    (s.cr0 &&& 0xA ≠ 0xA → s.params.softfloat = true → swES s.sw = true → s.cr0 &&& 0x20 ≠ 0 →
      exec .wait s = .next { s with neReq := true, completion := .abnormal }) ∧
    (s.cr0 &&& 0xA ≠ 0xA → s.params.softfloat = true → swES s.sw = true → s.cr0 &&& 0x20 = 0 →
      exec .wait s = .next { s with irq13 := s.irq13 + 1, completion := .abnormal }) ∧
    (s.cr0 &&& 0xA ≠ 0xA → s.params.softfloat = true → swES s.sw = false →
      exec .wait s = .next { s with cycles := s.cycles + 4, completion := .normal }) ∧
    (s.cr0 &&& 0xA ≠ 0xA → s.params.softfloat = false →
      exec .wait s = .next { s with cycles := s.cycles + 4, completion := .normal })

/-! ## Who writes what -/

/-- No instruction writes CR0, the segment registers, EIP, the mode, the inputs or `x87_op`; none clears NE_REQ or lowers the
IRQ 13 request (R49, R50, R51); only WAIT charges cycles (the escapes' charge is the model's, notes/assumptions/31.md). -/
def Obligations.CpuStateUntouched : Prop :=
  ∀ (i : Instr) (s t : State), exec i s = .next t →
    t.cr0 = s.cr0 ∧ t.segs = s.segs ∧ t.eip = s.eip ∧ t.code32 = s.code32 ∧ t.mode = s.mode ∧ t.inp = s.inp ∧
      t.x87op = s.x87op ∧ t.params = s.params ∧ t.faultMap = s.faultMap ∧ (s.neReq = true → t.neReq = true) ∧
      s.irq13 ≤ t.irq13 ∧ (i ≠ .wait → t.cycles = s.cycles)

/-- FNSTSW AX writes the low 16 bits of EAX and no other instruction writes a general register (R53); FCOMI, FCOMIP, FUCOMI and
FUCOMIP write EFLAGS and no other instruction does, and they write no bit but ZF, PF, CF, OF, SF and AF (R54); an instruction
that stores nothing leaves every byte of memory unchanged (R82). -/
def Obligations.Writers : Prop :=
  ∀ (i : Instr) (s t : State), exec i s = .next t →
    (i ≠ .fnstswAx → t.gpr = s.gpr) ∧
    (i = .fnstswAx → t.gpr = { s.gpr with eax := t.gpr.eax } ∧ t.gpr.eax &&& 0xFFFF0000 = s.gpr.eax &&& 0xFFFF0000) ∧
    (writesEflags i = false → t.eflags = s.eflags) ∧
    t.eflags &&& ~~~(0x8D5 : Word32) = s.eflags &&& ~~~(0x8D5 : Word32) ∧
    (storesMemory i = false → t.mem = s.mem)

/-- The writers of CW: FLDCW, FLDENV and FRSTOR store `(v & 0x1F3F) | 0x0040` of the word v at their operand's address (R46);
besides them only FNINIT, FNSAVE and FNSTENV write CW, and they keep that form. -/
def Obligations.ControlWordWriters : Prop :=
  (∀ (m : MemOp) (i : Instr) (s t : State), i ∈ [Instr.fldcw m, .fldenv m, .frstor m] → exec i s = .next t →
    t.completion = .normal → t.cw = (BitVec.ofNat 16 (s.operand m 2) &&& 0x1F3F) ||| 0x0040) ∧
  (∀ (i : Instr) (s t : State), exec i s = .next t → cwStored s.cw = s.cw → cwStored t.cw = t.cw) ∧
  ∀ (i : Instr) (s t : State), writesCw i = false → exec i s = .next t → t.cw = s.cw

/-- R39: no instruction but FNCLEX, FNINIT, FNSAVE, FLDENV and FRSTOR clears an exception flag. -/
def Obligations.StickyFlags : Prop :=
  ∀ (i : Instr) (s t : State) (k : Nat), clearsFlags i = false → exec i s = .next t → k < 7 →
    s.sw.getLsbD k = true → t.sw.getLsbD k = true

/-- R60: FNCLEX, FLDCW, FNSTCW, FNSTSW, FNSTENV, FNENI, FNDISI, FNSETPM and WAIT do not update the pointers. -/
def Obligations.PointersKept : Prop :=
  ∀ (m : MemOp) (i : Instr) (s t : State),
    i ∈ [Instr.fnclex, .fldcw m, .fnstcw m, .fnstswM2byte m, .fnstswAx, .fnstenv m, .fneni, .fndisi, .fnsetpm, .wait] →
      exec i s = .next t →
        t.fip = s.fip ∧ t.fcs = s.fcs ∧ t.fop = s.fop ∧ t.fdp = s.fdp ∧ t.fds = s.fds

/-! ## Memory -/

/-- R81: a write of n bytes (no operand has more than 10) is read back, byte k of memory holds bits 8k+7:8k, every other byte is
unchanged, and memory keeps its canonical form. -/
def Obligations.MemoryReadsBack : Prop :=
  ∀ (s : State) (a : Word32) (n v : Nat) (mem : List Host.Cell),
    Memory.wf s.mem = true → n ≤ 10 → s.memWrite a n v = .ok mem →
      readLE mem a n = v % 256 ^ n ∧
      (∀ k, k < n → readByte mem (a + BitVec.ofNat 32 k).toNat = BitVec.ofNat 8 (v / 256 ^ k)) ∧
      (∀ x : Nat, (∀ k, k < n → x ≠ (a + BitVec.ofNat 32 k).toNat) → readByte mem x = readByte s.mem x) ∧
      Memory.wf mem = true

/-- A fault on a byte of the memory source ends the instruction ABNORMAL with nothing changed (R59, R85): the fault of the first
such byte is handed over. -/
def Obligations.SourceFaults : Prop :=
  ∀ (i : Instr) (s : State) (m : MemOp) (n : Nat) (f : MemFault),
    Ready .waiting s → sourceOf s i = some (m, n) → accessFault s.faultMap false (s.addr m) n = some f →
      HandsOver i s f.vector

/-! ## Loads -/

/-- A load from memory pushes the converted value; with ST(7) not empty it is a stack overflow, whose masked response pushes
real indefinite (R37, R176). FLD ST(i) pushes the old ST(i); overflow is tested first, then underflow (R203,
notes/assumptions/38.md). That C1 is 0 after an unmasked IE or DE is the model's reading (notes/assumptions/13.md). -/
def Obligations.Loads : Prop :=
  (∀ f ∈ loadForms, ∀ (s : State) (m : MemOp),
    Ready .waiting s → Readable s m f.bytes →
      let x := f.value s (s.operand m f.bytes)
      if s.isEmpty 7 then CompletesMem (f.instr m) m s (x.2, false) fun t => Pushed s t x.1
      else CompletesMem (f.instr m) m s (Exc.stackFault, true) fun t => Pushed s t realIndefinite) ∧
  ∀ (s : State) (i : BitVec 3), Ready .waiting s →
    if s.isEmpty 7 = false then Completes (.fldSt i) s (Exc.stackFault, true) fun t => Pushed s t realIndefinite
    else if s.isEmpty i then Completes (.fldSt i) s (Exc.stackFault, false) fun t => Pushed s t realIndefinite
    else Completes (.fldSt i) s (Exc.clear, false) fun t => Pushed s t (s.st i)

/-- R221 to R228: each constant instruction, encoded D9 and its second byte, pushes its table entry, chosen by CW.RC (bits
11:10), with no flag; with ST(7) not empty it is a stack overflow. -/
def Obligations.Constants : Prop :=
  ∀ x ∈ constantTable, encode x.1 = [0xD9, x.2.1] ∧ ∀ s : State, Ready .waiting s →
    if s.isEmpty 7 then
      Completes x.1 s (Exc.clear, false) fun t =>
        Pushed s t
          (if s.cw.extractLsb' 10 2 = 0 then x.2.2.1 else if s.cw.extractLsb' 10 2 = 2 then x.2.2.2.2 else x.2.2.2.1)
    else Completes x.1 s (Exc.stackFault, true) fun t => Pushed s t realIndefinite

/-! ## Stores -/

/-- A store to memory: when nothing is suppressed the bytes at the operand's address hold the image, no other byte of memory
changes, and the stack pops as the instruction says; a write fault is handed over with only the pointers updated (R85); with
an unmasked IE, DE, ZE, OE or UE neither memory nor the stack changes (R190). C1 after an unmasked IE, and C1 and no PE after an
unmasked OE or UE, are the model's readings (notes/assumptions/13.md and 21.md). -/
def Obligations.MemoryStores : Prop :=
  ∀ f ∈ storeForms, ∀ (s : State) (m : MemOp), Ready .waiting s → Memory.wf s.mem = true →
    let r := f.result s
    (f.goesAhead s →
      ∃ v, r.bits = some v ∧
        (Writable s m f.bytes →
          ∃ t, exec (f.instr m) s = .next t ∧ OnlyStackAndMem s t ∧ PointersMem s t m ∧ NumericEnd s t r.exc r.c1 ∧
            StoredAt s t (s.addr m) f.bytes v ∧ Popped f.pops s t) ∧
        ∀ e, accessFault s.faultMap true (s.addr m) f.bytes = some e →
          exec (f.instr m) s = .next ((s.pointersMem m).raiseCpu e.vector)) ∧
    (¬f.goesAhead s →
      ∃ t, exec (f.instr m) s = .next t ∧ OnlyStack s t ∧ PointersMem s t m ∧ NumericEnd s t r.exc r.c1 ∧ KeptStack s t)

/-- FST ST(i) (R210) and FSTP ST(i) with its aliases (R214): ST(i) receives ST(0), or real indefinite with a stack fault when
ST(0) is empty; then FSTP pops. -/
def Obligations.RegisterStores : Prop :=
  ∀ (i : BitVec 3) (s : State), Ready .waiting s →
    ∀ x ∈ ([(.fstSt i, 0), (.fstpSt i, 1), (.fstp1St i, 1), (.fstp8St i, 1), (.fstp9St i, 1)] : List (Instr × Nat)),
      if s.isEmpty 0 then Completes x.1 s (Exc.stackFault, false) fun t => Wrote x.2 s t (s.phys i) realIndefinite
      else Completes x.1 s (Exc.clear, false) fun t => Wrote x.2 s t (s.phys i) (s.st 0)

/-! ## Conditional moves -/

/-- R230 to R238, under their encodings and only when P6_EXT is set: with both registers full, ST(0) receives ST(i) if the
condition holds on EFLAGS, and no flag is raised; with an empty one ST(0) receives real indefinite, whatever the condition,
with IE, SF and C1 = 0. -/
def Obligations.ConditionalMoves : Prop :=
  ∀ (i : BitVec 3), ∀ x ∈ moveConditions i,
    encode x.1 = [x.2.1.1, x.2.1.2 + i.setWidth 8] ∧ (∀ c : Params, available c x.1 = c.p6Ext) ∧
    ∀ s : State, Ready .waiting s →
    if s.isEmpty 0 || s.isEmpty i then
      Completes x.1 s (Exc.stackFault, false) fun t => Wrote 0 s t s.top realIndefinite
    else
      ∃ t, exec x.1 s = .next t ∧ OnlyStack s t ∧ PointersReg s t ∧ Raised s t Exc.clear ∧
        if x.2.2 s.eflags then Wrote 0 s t s.top (s.st i) else KeptStack s t

/-! ## Arithmetic -/

/-- The register forms write `d op s`, or `s op d` for a reversed operation, at the precision CW.PC selects, to the destination,
and pop; an empty operand is a stack fault (R250, R251). That precision is 24, 53 or 64, and PC01_PRECISION for the reserved
code (R44), and the operation reads CW and TININESS of the state. After an unmasked DE, C1 = 0 and no OE, UE or PE are the model's
readings (notes/assumptions/13.md and 37.md). -/
def Obligations.RegisterArithmetic : Prop :=
  (∀ (i : BitVec 3), ∀ f ∈ arithForms i, ∀ s : State, Ready .waiting s →
    if s.isEmpty f.dst || s.isEmpty f.src then
      Completes f.instr s (Exc.stackFault, false) fun t => Wrote f.pops s t (s.phys f.dst) realIndefinite
    else
      let d := Operand.reg (s.st f.dst)
      let a := Operand.reg (s.st f.src)
      let r := if f.reversed then arithResult f.op (s.numCtx s.precision) a d else arithResult f.op (s.numCtx s.precision) d a
      Completes f.instr s (r.exc, r.c1) fun t => Wrote f.pops s t (s.phys f.dst) r.v) ∧
  ∀ s : State,
    (s.cw.extractLsb' 8 2 = 0b00 → s.precision = 24) ∧ (s.cw.extractLsb' 8 2 = 0b10 → s.precision = 53) ∧
    (s.cw.extractLsb' 8 2 = 0b11 → s.precision = 64) ∧
    (s.cw.extractLsb' 8 2 = 0b01 →
      s.precision = match s.params.pc01 with
        | .p24 => 24
        | .p53 => 53
        | .p64 => 64) ∧
    ∀ p : Nat, (s.numCtx p).cw = s.cw ∧ (s.numCtx p).tininess = s.params.tininess ∧ (s.numCtx p).p = p

/-- The memory forms write `ST(0) op s`, or `s op ST(0)` for a reversed operation, to ST(0) (R185, R250, R251). After an unmasked
DE, C1 = 0 and no OE, UE or PE are the model's readings (notes/assumptions/13.md and 37.md). -/
def Obligations.MemoryArithmetic : Prop :=
  ∀ f ∈ memArithForms, ∀ (s : State) (m : MemOp), Ready .waiting s → Readable s m f.bytes →
    if s.isEmpty 0 then
      CompletesMem (f.instr m) m s (Exc.stackFault, false) fun t => Wrote 0 s t s.top realIndefinite
    else
      let d := Operand.reg (s.st 0)
      let a := f.source (s.operand m f.bytes)
      let r := if f.reversed then arithResult f.op (s.numCtx s.precision) a d else arithResult f.op (s.numCtx s.precision) d a
      CompletesMem (f.instr m) m s (r.exc, r.c1) fun t => Wrote 0 s t s.top r.v

/-- FABS, FCHS, FSQRT, FRNDINT and F2XM1 replace ST(0) by their function of it, and FSCALE by its function of ST(0) and ST(1);
an empty operand is a stack fault. The special operands of FSQRT (R183, R296), FRNDINT (R297), F2XM1 (R307) and FSCALE (R298;
DE in its special cases is the model's reading, notes/assumptions/15.md); ExactBeforeRounding and ConversionsRoundTrip say
what FSQRT, FRNDINT and FSCALE make of the others. That C1 of an F2XM1 out of range is a draw is the model's choice (18.md), and
after an unmasked DE C1 = 0 and no OE, UE or PE are its readings (13.md and 37.md). -/
def Obligations.UnaryArithmetic : Prop :=
  (∀ x ∈ unaryForms, ∀ s : State, Ready .waiting s →
    if s.isEmpty 0 then Completes x.1 s (Exc.stackFault, false) fun t => Wrote 0 s t s.top realIndefinite
    else Completes x.1 s ((x.2 s (s.st 0)).exc, (x.2 s (s.st 0)).c1) fun t => Wrote 0 s t s.top (x.2 s (s.st 0)).v) ∧
  (∀ s : State, Ready .waiting s →
    if s.isEmpty 0 || s.isEmpty 1 then
      Completes .fscale s (Exc.stackFault, false) fun t => Wrote 0 s t s.top realIndefinite
    else
      let r := scaleResult (s.numCtx 64) (s.st 0) (s.st 1)
      Completes .fscale s (r.exc, r.c1) fun t => Wrote 0 s t s.top r.v) ∧
  (∀ (c : NumCtx) (d : Draw) (a : F80),
    (∀ f ∈ [sqrtResult c, rndintResult c, exp2m1Result d c],
      (isUnsupported a = true → f a = ⟨realIndefinite, Exc.invalid, false⟩) ∧
      (isNan a = true → f a = ⟨a ||| BitVec.twoPow 80 62, { ie := isSnan a }, false⟩) ∧
      (isZero a = true → f a = ⟨a, Exc.clear, false⟩) ∧
      (a = infinityOf false → f a = ⟨a, Exc.clear, false⟩)) ∧
    (isNan a = false → isUnsupported a = false → isZero a = false → signOf a = true →
      sqrtResult c a = ⟨realIndefinite, Exc.invalid, false⟩) ∧
    (a = infinityOf true →
      rndintResult c a = ⟨a, Exc.clear, false⟩ ∧ exp2m1Result d c a = ⟨0xBFFF8000000000000000, Exc.clear, false⟩) ∧
    (∀ r : ℝ, Holds a r → 1 < |r| →
      exp2m1Result d c a = ⟨d.v, { pe := d.pe, de := isDenormal a }, d.c1⟩)) ∧
  ∀ (c : NumCtx) (a b : F80),
    let de : Exc := { de := isDenormal a || isDenormal b }
    let r := scaleResult c a b
    (isUnsupported a || isUnsupported b → r = ⟨realIndefinite, Exc.invalid, false⟩) ∧
    (isUnsupported a = false → isUnsupported b = false →
      (isNan a || isNan b → r = arithResult .add c (.reg a) (.reg b)) ∧
      (isZero a = true → b = infinityOf false → r = ⟨realIndefinite, Exc.invalid, false⟩) ∧
      (isInf a = true → b = infinityOf true → r = ⟨realIndefinite, Exc.invalid, false⟩) ∧
      (isNan a = false → isZero a = false → b = infinityOf false → r = ⟨infinityOf (signOf a), de, false⟩) ∧
      (isFinite a = true → b = infinityOf true → r = ⟨zeroOf (signOf a), de, false⟩) ∧
      (isZero a || isInf a → isFinite b = true → r = ⟨a, de, false⟩))

/-- FXTRACT (R299): ST(0) receives the exponent and the significand is pushed; the stack tests are underflow, then overflow. A
finite nonzero a has the exponent e with 2^e ≤ |a| < 2^(e+1) and the significand a / 2^e, both exact, with DE when it is
denormal; a zero gives -∞ and itself, with ZE, an infinity +∞ and itself, a NaN twice its quieted self, an unsupported pattern
twice real indefinite. That C1 is 0 after an unmasked IE, DE or ZE is the model's reading (notes/assumptions/13.md). -/
def Obligations.Extract : Prop :=
  (∀ s : State, Ready .waiting s →
    if s.isEmpty 0 then
      Completes .fxtract s (Exc.stackFault, false) fun t => WroteAndPushed s t realIndefinite realIndefinite
    else if s.isEmpty 7 = false then
      Completes .fxtract s (Exc.stackFault, true) fun t => WroteAndPushed s t realIndefinite realIndefinite
    else
      let r := xtractResult (s.st 0)
      Completes .fxtract s (r.2.2, false) fun t => WroteAndPushed s t r.1 r.2.1) ∧
  ∀ a : F80,
    let r := xtractResult a
    (isUnsupported a = true → r = (realIndefinite, realIndefinite, Exc.invalid)) ∧
    (isNan a = true → r = (a ||| BitVec.twoPow 80 62, a ||| BitVec.twoPow 80 62, { ie := isSnan a })) ∧
    (isZero a = true → r = (infinityOf true, a, { ze := true })) ∧
    (isInf a = true → r = (infinityOf false, a, Exc.clear)) ∧
    ∀ ra : ℝ, Holds a ra → ra ≠ 0 →
      ∃ e : ℤ, (2 : ℝ) ^ e ≤ |ra| ∧ |ra| < (2 : ℝ) ^ (e + 1) ∧ Holds r.1 e ∧ Holds r.2.1 (ra / (2 : ℝ) ^ e) ∧
        r.2.2 = { de := isDenormal a }

/-- FPREM and FPREM1 (R300, R301): an empty register is a stack fault. On full registers ST(0) receives the remainder; a
complete reduction clears C2 and gives C0, C3 and C1 bits 2, 1 and 0 of the quotient (the model's reading of R300 against R42,
notes/assumptions/26.md), all 0 when b is an infinity or a is a zero, and a partial one sets C2. What keeps the remainder from
being delivered also keeps C1 (13.md), and an unmasked DE keeps UE and PE from being raised (37.md). The result: real
indefinite and IE for an unsupported operand, an infinite a, or a zero b unless a is a NaN, in the order of R300's branches
(16.md); then the NaN rule; then a itself when b is an infinity or a is a zero; else the exact remainder, a zero one with a's
sign (of a partial FPREM the model's choice, 43.md), with the underflow response of R161. -/
def Obligations.PartialRemainders : Prop :=
  (∀ x ∈ ([(.fprem, false), (.fprem1, true)] : List (Instr × Bool)), ∀ s : State, Ready .waiting s →
    if s.isEmpty 0 || s.isEmpty 1 then
      Completes x.1 s (Exc.stackFault, false) fun t => Wrote 0 s t s.top realIndefinite
    else
      let a := s.st 0
      let b := s.st 1
      let r := remOutcome x.2 (s.numCtx 64) s.drawn a b
      ∃ t, exec x.1 s = .next t ∧ OnlyStack s t ∧ PointersReg s t ∧ Raised s t r.exc ∧
        (Undisturbed s r.exc → Wrote 0 s t s.top r.v) ∧
        (¬Undisturbed s r.exc → KeptStack s t ∧ c1Of t.sw = c1Of s.sw) ∧
        (Undisturbed s r.exc → isFinite a = true → isZero a = false → isFinite b = true → isZero b = false →
          ∀ q, (reduce x.2 (fpremN a b) (valOf a) (valOf b)).quot = some q →
            c1Of t.sw = q.testBit 0 ∧ Codes320 t (q.testBit 1) false (q.testBit 2)) ∧
        (isFinite a = true → isZero a = false → isFinite b = true → isZero b = false →
          (reduce x.2 (fpremN a b) (valOf a) (valOf b)).quot = none → c2Of t.sw = true) ∧
        (Undisturbed s r.exc → isFinite a = true → isInf b = true ∨ (isZero a = true ∧ isFinite b = true ∧ isZero b = false) →
          c1Of t.sw = false ∧ Codes320 t false false false)) ∧
  ∀ (nearest : Bool) (c : NumCtx) (d : BitVec 4) (a b : F80),
    let r := remOutcome nearest c d a b
    let de : Exc := { de := isDenormal a || isDenormal b }
    (isUnsupported a || isUnsupported b || isInf a || (isZero b && !isNan a) → r.v = realIndefinite ∧ r.exc = Exc.invalid) ∧
    (isUnsupported a = false → isUnsupported b = false → isInf a = false → isNan a || isNan b →
      r.v = (arithResult .add c (.reg a) (.reg b)).v ∧ r.exc = (arithResult .add c (.reg a) (.reg b)).exc) ∧
    (isFinite a = true →
      (isInf b = true ∨ (isZero a = true ∧ isFinite b = true ∧ isZero b = false) → r.v = a ∧ r.exc = de) ∧
      (isZero a = false → isFinite b = true → isZero b = false →
        let y := reduce nearest (fpremN a b) (valOf a) (valOf b)
        (y.mag.m = 0 → r.v = zeroOf (signOf a) ∧ r.exc = de) ∧
        (y.mag.m ≠ 0 → r.v = (roundReg c y.neg y.mag).v ∧ r.exc = de.union (roundReg c y.neg y.mag).exc)))

/-! ## Transcendental instructions -/

/-- FYL2X, FYL2XP1 and FPATAN: ST(1) receives the result and the stack pops; an empty operand is a stack fault. The special
tables of R308, R309 and R311, after unsupported operands and NaNs. The model's readings: DE in the special cases of FYL2X and
FYL2XP1 (notes/assumptions/15.md) and none in those of FPATAN (38.md), an infinite y of FYL2XP1 (19.md), its draw out of range
(18.md), and after an unmasked DE C1 = 0 and no OE, UE or PE (13.md and 37.md). -/
def Obligations.TwoOperandTranscendentals : Prop :=
  (∀ x ∈ twoOperandForms, ∀ s : State, Ready .waiting s →
    if s.isEmpty 0 || s.isEmpty 1 then
      Completes x.1 s (Exc.stackFault, false) fun t => Wrote 1 s t (s.phys 1) realIndefinite
    else
      let r := x.2 s (s.st 0) (s.st 1)
      Completes x.1 s (r.exc, r.c1) fun t => Wrote 1 s t (s.phys 1) r.v) ∧
  ∀ (c : NumCtx) (d : Draw) (x y : F80),
    let sx := signOf x
    let sy := signOf y
    let de : Exc := { de := isDenormal x || isDenormal y }
    let invalid : Result := ⟨realIndefinite, Exc.invalid, false⟩
    (∀ f ∈ [yl2xResult c, yl2xp1Result d c, patanResult c],
      (isUnsupported x || isUnsupported y → f x y = invalid) ∧
      (isUnsupported x = false → isUnsupported y = false → isNan x || isNan y →
        f x y = arithResult .add c (.reg x) (.reg y))) ∧
    (isFinite x || isInf x → isFinite y || isInf y →
      -- FYL2X (R308)
      (let r := yl2xResult c x y
      (sx = true → isZero x = false → r = invalid) ∧
      (isZero x = true → isZero y = true → r = invalid) ∧
      (isZero x = true → isZero y = false → r = ⟨infinityOf (!sy), { ze := isFinite y }, false⟩) ∧
      (x = infinityOf false → isZero y = true → r = invalid) ∧
      (x = infinityOf false → isZero y = false → r = ⟨infinityOf sy, de, false⟩) ∧
      (Holds x 1 → isInf y = true → r = invalid) ∧
      (Holds x 1 → isFinite y = true → r = ⟨zeroOf sy, de, false⟩) ∧
      ∀ rx : ℝ, Holds x rx →
        (0 < rx → rx < 1 → (isInf y = true → r = ⟨infinityOf (!sy), de, false⟩) ∧
          (isZero y = true → r = ⟨zeroOf (!sy), de, false⟩)) ∧
        (1 < rx → (isInf y = true → r = ⟨infinityOf sy, de, false⟩) ∧ (isZero y = true → r = ⟨zeroOf sy, de, false⟩))) ∧
      -- FYL2XP1 (R309)
      (let r := yl2xp1Result d c x y
      let drawn : Result := ⟨d.v, { pe := d.pe, de := de.de }, d.c1⟩
      (isZero x = true → isInf y = true → r = invalid) ∧
      (isZero x = true → isFinite y = true → r = ⟨zeroOf (sx != sy), de, false⟩) ∧
      (isInf x = true → r = drawn) ∧
      ∀ rx : ℝ, Holds x rx → rx ≠ 0 →
        (|rx| < 1 - Real.sqrt 2 / 2 → (isZero y = true → r = ⟨zeroOf (sx != sy), de, false⟩) ∧
          (isInf y = true → r = ⟨infinityOf (sx != sy), de, false⟩)) ∧
        (1 - Real.sqrt 2 / 2 ≤ |rx| → r = drawn)) ∧
      -- FPATAN (R311)
      (c.p = 64 →
        let r := patanResult c x y
        let multiple := piRounded (rcOf c.cw) sy
        (isZero y = true → sx = false → r = ⟨y, Exc.clear, false⟩) ∧
        (isZero y = true → sx = true → r = multiple 0x4000C90FDAA22168C234) ∧
        (isFinite y = true → isZero y = false → isZero x = true → r = multiple 0x3FFFC90FDAA22168C234) ∧
        (isFinite y = true → x = infinityOf false → r = ⟨zeroOf sy, Exc.clear, false⟩) ∧
        (isFinite y = true → x = infinityOf true → r = multiple 0x4000C90FDAA22168C234) ∧
        (isInf y = true → x = infinityOf false → r = multiple 0x3FFEC90FDAA22168C234) ∧
        (isInf y = true → x = infinityOf true → r = multiple 0x400096CBE3F9990E91A7) ∧
        (isInf y = true → isFinite x = true → r = multiple 0x3FFFC90FDAA22168C234)))

/-- FSIN and FCOS in range (R306, R312, R313): C2 is 0 and ST(0) receives the result. The special operands: an unsupported
pattern and an infinity give real indefinite and IE, a NaN its quieted self, a zero itself or 1.0; any other operand raises PE,
and DE when it is denormal, and no IE or ZE; a denormal gives FCOS 1.0 or the value just below it, with no UE. After an unmasked
DE, C1 = 0 and no UE or PE are the model's readings (notes/assumptions/13.md and 37.md), and so is UE for FSIN (39.md). -/
def Obligations.SineCosine : Prop :=
  (∀ x ∈ ([(.fsin, sinResult), (.fcos, cosResult)] : List (Instr × (NumCtx → F80 → Result))), ∀ s : State,
    Ready .waiting s →
      (s.isEmpty 0 = true →
        Completes x.1 s (Exc.stackFault, false) (fun t => Wrote 0 s t s.top realIndefinite) ∧
          ∀ t, exec x.1 s = .next t → c2Of t.sw = false) ∧
      (s.isEmpty 0 = false → ¬beyondTrigRange (s.st 0) →
        let r := x.2 (s.numCtx 64) (s.st 0)
        Completes x.1 s (r.exc, r.c1) (fun t => Wrote 0 s t s.top r.v) ∧ ∀ t, exec x.1 s = .next t → c2Of t.sw = false)) ∧
  ∀ (c : NumCtx) (a : F80),
    (∀ f ∈ [sinResult c, cosResult c],
      (isUnsupported a || isInf a → f a = ⟨realIndefinite, Exc.invalid, false⟩) ∧
      (isNan a = true → f a = ⟨a ||| BitVec.twoPow 80 62, { ie := isSnan a }, false⟩) ∧
      (isFinite a = true → isZero a = false → ¬beyondTrigRange a →
        (f a).exc = { de := isDenormal a, oe := (f a).exc.oe, ue := (f a).exc.ue, pe := true })) ∧
    (isZero a = true →
      sinResult c a = ⟨a, Exc.clear, false⟩ ∧ cosResult c a = ⟨0x3FFF8000000000000000, Exc.clear, false⟩) ∧
    (c.p = 64 → isDenormal a = true →
      let r := cosResult c a
      r.exc = { de := true, pe := true } ∧
        ((r.v = 0x3FFF8000000000000000 ∧ r.c1 = true) ∨ (r.v = 0x3FFEFFFFFFFFFFFFFFFF ∧ r.c1 = false)))

/-- FPTAN and FSINCOS in range (R306, R310, R314): C2 is 0, ST(0) receives the first result and the second is pushed; the stack
tests are underflow, then overflow. The special operands: an unsupported pattern and an infinity give twice real indefinite,
with IE, a NaN twice its quieted self (D42), a zero itself and 1.0; of any other operand FPTAN pushes 1.0 and raises PE, and DE
when it is denormal, and FSINCOS gives the results of FSIN and FCOS, the flags of either and the C1 of the sine (D43; the
model's reading of the other flags is notes/assumptions/33.md). After an unmasked DE, C1 = 0 and no UE or PE are the model's
readings (13.md and 37.md), and so is UE for these functions (39.md). -/
def Obligations.TangentSineCosine : Prop :=
  (∀ x ∈ ([(.fptan, ptanResult), (.fsincos, sincosResult)] : List (Instr × (NumCtx → F80 → PairResult))), ∀ s : State,
    Ready .waiting s →
      (s.isEmpty 0 = true →
        Completes x.1 s (Exc.stackFault, false) (fun t => WroteAndPushed s t realIndefinite realIndefinite) ∧
          ∀ t, exec x.1 s = .next t → c2Of t.sw = false) ∧
      (s.isEmpty 0 = false → s.isEmpty 7 = false →
        Completes x.1 s (Exc.stackFault, true) (fun t => WroteAndPushed s t realIndefinite realIndefinite) ∧
          ∀ t, exec x.1 s = .next t → c2Of t.sw = false) ∧
      (s.isEmpty 0 = false → s.isEmpty 7 = true → ¬beyondTrigRange (s.st 0) →
        let r := x.2 (s.numCtx 64) (s.st 0)
        Completes x.1 s (r.exc, r.c1) (fun t => WroteAndPushed s t r.first r.second) ∧
          ∀ t, exec x.1 s = .next t → c2Of t.sw = false)) ∧
  ∀ (c : NumCtx) (a : F80),
    (∀ f ∈ [ptanResult c, sincosResult c],
      (isUnsupported a || isInf a → f a = ⟨realIndefinite, realIndefinite, Exc.invalid, false⟩) ∧
      (isNan a = true →
        f a = ⟨a ||| BitVec.twoPow 80 62, a ||| BitVec.twoPow 80 62, { ie := isSnan a }, false⟩) ∧
      (isZero a = true → f a = ⟨a, 0x3FFF8000000000000000, Exc.clear, false⟩)) ∧
    (isFinite a = true → isZero a = false → ¬beyondTrigRange a →
      let r := ptanResult c a
      (r.second = 0x3FFF8000000000000000 ∧ r.exc = { de := isDenormal a, oe := r.exc.oe, ue := r.exc.ue, pe := true }) ∧
      sincosResult c a =
        ⟨(sinResult c a).v, (cosResult c a).v, (sinResult c a).exc.union (cosResult c a).exc, (sinResult c a).c1⟩)

/-- R306: FPTAN, FSIN, FCOS and FSINCOS of a FINITE operand of magnitude 2^63 or more set C2 and complete NORMAL: ST(0), the
stack and the exception flags are unchanged, and the pointers are updated. -/
def Obligations.TrigOutOfRange : Prop :=
  ∀ i ∈ [Instr.fptan, .fsin, .fcos, .fsincos], ∀ s : State,
    Ready .waiting s → s.isEmpty 0 = false → (i = .fptan ∨ i = .fsincos → s.isEmpty 7 = true) → beyondTrigRange (s.st 0) →
      ∃ t, exec i s = .next t ∧ OnlyStack s t ∧ PointersReg s t ∧ KeptStack s t ∧ c2Of t.sw = true ∧
        t.sw &&& 0x80FF = s.sw &&& 0x80FF

/-! ## Comparison -/

/-- The register compares and FTST: an empty operand compares UNORDERED with a stack fault. -/
def Obligations.RegisterCompares : Prop :=
  (∀ (i : BitVec 3), ∀ x ∈ compareForms i, ∀ s : State, Ready .waiting s →
    ∃ t, exec x.1 s = .next t ∧ OnlyStack s t ∧ PointersReg s t ∧
      ComparesTo s t
        (if s.isEmpty 0 || s.isEmpty x.2.2.1 then (.unordered, Exc.stackFault)
          else compareResult x.2.1 (.reg (s.st 0)) (.reg (s.st x.2.2.1))) x.2.2.2) ∧
  ∀ s : State, Ready .waiting s →
    ∃ t, exec .ftst s = .next t ∧ OnlyStack s t ∧ PointersReg s t ∧
      ComparesTo s t
        (if s.isEmpty 0 then (.unordered, Exc.stackFault) else compareResult true (.reg (s.st 0)) (.reg 0)) 0

/-- The memory compares (R320). -/
def Obligations.MemoryCompares : Prop :=
  ∀ x ∈ memCompareForms, ∀ (s : State) (m : MemOp), Ready .waiting s → Readable s m x.2.1 →
    ∃ t, exec (x.1 m) s = .next t ∧ OnlyStack s t ∧ PointersMem s t m ∧
      ComparesTo s t
        (if s.isEmpty 0 then (.unordered, Exc.stackFault)
          else compareResult true (.reg (s.st 0)) (x.2.2.1 (s.operand m x.2.1))) x.2.2.2

/-- R330: FCOMI, FCOMIP, FUCOMI and FUCOMIP, which exist under P6_EXT, write the relation to ZF, PF and CF and clear OF, SF
and AF, and no other bit of EFLAGS changes; C1 is 0, and C0, C2 and C3 are unchanged. With an unmasked IE or DE EFLAGS are
unchanged and nothing pops. -/
def Obligations.EflagsCompares : Prop :=
  ∀ (i : BitVec 3), ∀ x ∈ eflagsCompareForms i,
    (∀ c : Params, available c x.1 = c.p6Ext) ∧ ∀ s : State, Ready .waiting s →
    let r : Rel × Exc :=
      if s.isEmpty 0 || s.isEmpty i then (.unordered, Exc.stackFault)
      else compareResult x.2.1 (.reg (s.st 0)) (.reg (s.st i))
    ∃ t, exec x.1 s = .next t ∧ OnlyStackAndEflags s t ∧ PointersReg s t ∧ Raised s t r.2 ∧ c1Of t.sw = false ∧
      c320 t.sw = c320 s.sw ∧
      (Undisturbed s r.2 →
        Popped x.2.2 s t ∧ (t.eflags.getLsbD 6, t.eflags.getLsbD 2, t.eflags.getLsbD 0) = relBits r.1 ∧
          t.eflags.getLsbD 11 = false ∧ t.eflags.getLsbD 7 = false ∧ t.eflags.getLsbD 4 = false ∧
          t.eflags &&& ~~~(0x8D5 : Word32) = s.eflags &&& ~~~(0x8D5 : Word32)) ∧
      (¬Undisturbed s r.2 → KeptStack s t ∧ t.eflags = s.eflags)

/-- R336: FXAM writes C1 from the sign bit of R[TOP], even when it is empty, and the class code; nothing else of SW changes. -/
def Obligations.Examine : Prop :=
  encode .fxam = [0xD9, 0xE5] ∧
  ∀ s : State, Ready .waiting s →
    ∃ t, exec .fxam s = .next t ∧ OnlyStack s t ∧ t.draws = s.draws ∧ PointersReg s t ∧ KeptStack s t ∧
      c1Of t.sw = (s.reg s.top).getLsbD 79 ∧ c320 t.sw = examineCode (s.isEmpty 0) (s.st 0) ∧
      t.sw &&& 0xB8FF = s.sw &&& 0xB8FF

/-! ## Stack management -/

/-- R350: FXCH and its aliases, which exist under UNDOC_ALIASES, exchange ST(0) and ST(i), an empty register counting as
real indefinite and raising IE and SF; C1 is 0. With IE unmasked a stack fault exchanges nothing. -/
def Obligations.Exchange : Prop :=
  ∀ (i : BitVec 3),
    encode (.fxchSt i) = [0xD9, 0xC8 + i.setWidth 8] ∧ encode (.fxch4St i) = [0xDD, 0xC8 + i.setWidth 8] ∧
    encode (.fxch7St i) = [0xDF, 0xC8 + i.setWidth 8] ∧
    (∀ c : Params, available c (.fxch4St i) = c.undocAliases ∧ available c (.fxch7St i) = c.undocAliases) ∧
    ∀ x ∈ [Instr.fxchSt i, .fxch4St i, .fxch7St i], ∀ s : State, Ready .waiting s →
    let fill := fun j : BitVec 3 => if s.isEmpty j then realIndefinite else s.st j
    Completes x s (if s.isEmpty 0 || s.isEmpty i then Exc.stackFault else Exc.clear, false) fun t =>
      t.top = s.top ∧
        ∀ j : BitVec 3,
          t.reg j = (if j = s.phys i then fill 0 else if j = s.top then fill i else s.reg j) ∧
            t.tag j = if j = s.phys i then tagOf (fill 0) else if j = s.top then tagOf (fill i) else s.tag j

/-- R351 to R355: FINCSTP and FDECSTP move TOP by one modulo 8, with C1 = 0; FFREE tags ST(i) empty, and FFREEP does so and
pops; FNOP does nothing. None of them changes a register, a flag, ES or B, and the tags change as said. FFREEP exists under
UNDOC_ALIASES, and D9 D1 to D9 D7 are no instruction. -/
def Obligations.StackManagement : Prop :=
  encode .fincstp = [0xD9, 0xF7] ∧ encode .fdecstp = [0xD9, 0xF6] ∧ encode .fnop = [0xD9, 0xD0] ∧
  (∀ i : BitVec 3, encode (.ffree i) = [0xDD, 0xC0 + i.setWidth 8] ∧ encode (.ffreep i) = [0xDF, 0xC0 + i.setWidth 8] ∧
    (∀ c : Params, available c (.ffreep i) = c.undocAliases) ∧ (i ≠ 0 → regForm 1 2 i = none)) ∧
  ∀ s : State, Ready .waiting s →
    (∀ x ∈ ([(.fincstp, 1), (.fdecstp, -1)] : List (Instr × BitVec 3)),
      ∃ t, exec x.1 s = .next t ∧ OnlyStack s t ∧ PointersReg s t ∧ t.top = s.top + x.2 ∧ t.regs = s.regs ∧ t.tags = s.tags ∧
        c1Of t.sw = false ∧ t.sw &&& 0x80FF = s.sw &&& 0x80FF) ∧
    (∀ i : BitVec 3, ∃ t, exec (.ffree i) s = .next t ∧ OnlyStack s t ∧ PointersReg s t ∧ t.top = s.top ∧ t.regs = s.regs ∧
      (∀ j : BitVec 3, t.tag j = if j = s.phys i then .empty else s.tag j) ∧ t.sw &&& 0x80FF = s.sw &&& 0x80FF) ∧
    (∀ i : BitVec 3, ∃ t, exec (.ffreep i) s = .next t ∧ OnlyStack s t ∧ PointersReg s t ∧ t.top = s.top + 1 ∧
      t.regs = s.regs ∧ (∀ j : BitVec 3, t.tag j = if j = s.phys i ∨ j = s.top then .empty else s.tag j) ∧
      t.sw &&& 0x80FF = s.sw &&& 0x80FF) ∧
    ∃ t, exec .fnop s = .next t ∧ OnlyStack s t ∧ PointersReg s t ∧ KeptStack s t ∧ t.sw &&& 0x80FF = s.sw &&& 0x80FF

/-! ## Control instructions -/

/-- R378 to R380: FNENI, FNDISI and FNSETPM change no state. -/
def Obligations.ControlNoEffect : Prop :=
  encode .fneni = [0xDB, 0xE0] ∧ encode .fndisi = [0xDB, 0xE1] ∧ encode .fnsetpm = [0xDB, 0xE4] ∧
  ∀ i ∈ [Instr.fneni, .fndisi, .fnsetpm], ∀ s : State, Ready .nonwaiting s → exec i s = .next { s with completion := .normal }

/-- R371 and R373: FNSTCW (D9 /7) and FNSTSW (DD /7) store CW and SW as a word; only the condition codes of SW change, and a
write fault changes nothing. -/
def Obligations.StoresControlAndStatus : Prop :=
  (∀ m, opcodeOf (.fnstcw m) = .mem 1 7 m ∧ opcodeOf (.fnstswM2byte m) = .mem 5 7 m) ∧
  ∀ x ∈ ([(.fnstcw, State.cw), (.fnstswM2byte, State.sw)] : List ((MemOp → Instr) × (State → Word16))), ∀ (s : State) (m : MemOp),
    Ready .nonwaiting s → Memory.wf s.mem = true →
      (Writable s m 2 →
        ∃ t, exec (x.1 m) s = .next t ∧ OnlyStatus { s with mem := t.mem } t ∧ StoredAt s t (s.addr m) 2 (x.2 s).toNat ∧
          t.sw &&& 0xB8FF = s.sw &&& 0xB8FF) ∧
      ∀ f, accessFault s.faultMap true (s.addr m) 2 = some f → HandsOver (x.1 m) s f.vector

/-- R377: FNSTSW AX, the one instruction that writes a general register, copies SW to AX, and then only the condition codes
of SW change; DF E1 to DF E7 are no instruction. -/
def Obligations.StatusToAx : Prop :=
  encode .fnstswAx = [0xDF, 0xE0] ∧ (∀ rm : BitVec 3, rm ≠ 0 → regForm 7 4 rm = none) ∧
  (∀ (i : Instr) (s t : State), exec i s = .next t → i ≠ .fnstswAx → t.gpr = s.gpr) ∧
  ∀ s : State, Ready .nonwaiting s →
    ∃ t, exec .fnstswAx s = .next t ∧ OnlyStatus { s with gpr := t.gpr } t ∧
      t.gpr = { s.gpr with eax := s.gpr.eax.extractLsb' 16 16 ++ s.sw } ∧ t.sw &&& 0xB8FF = s.sw &&& 0xB8FF

/-- R372: FLDCW (D9 /5) stores `(v & 0x1F3F) | 0x0040` to CW, and ES and B become the summary of the unmasked flags under
the new CW; besides these only the condition codes change. -/
def Obligations.LoadsControlWord : Prop :=
  (∀ m, opcodeOf (.fldcw m) = .mem 1 5 m) ∧
  ∀ (s : State) (m : MemOp), Ready .waiting s → Readable s m 2 →
    ∃ t, exec (.fldcw m) s = .next t ∧ OnlyStatus { s with cw := t.cw } t ∧
      t.cw = (BitVec.ofNat 16 (s.operand m 2) &&& 0x1F3F) ||| 0x0040 ∧ t.sw &&& 0x387F = s.sw &&& 0x387F ∧
      (swES t.sw = true ↔ s.sw &&& ~~~t.cw &&& 0x003F ≠ 0) ∧ t.sw.getLsbD 15 = swES t.sw

/-- R374: FNCLEX clears the seven flags, ES and B; besides these only the condition codes change. -/
def Obligations.ClearsExceptions : Prop :=
  encode .fnclex = [0xDB, 0xE2] ∧
  ∀ s : State, Ready .nonwaiting s →
    ∃ t, exec .fnclex s = .next t ∧ OnlyStatus s t ∧ t.sw &&& 0x80FF = 0 ∧ t.top = s.top

/-- R375 and R70: what FNINIT leaves; the data registers keep their bits. -/
def Obligations.Initialises : Prop :=
  encode .fninit = [0xDB, 0xE3] ∧
  ∀ s : State, Ready .nonwaiting s →
    ∃ t, exec .fninit s = .next t ∧ t.tagWord = 0xFFFF ∧
      t = { s with
        cw := 0x037F
        sw := 0x0000
        tags := t.tags
        fip := 0
        fcs := 0
        fop := 0
        fdp := 0
        fds := 0
        completion := .normal }

/-- FNSTENV and FNSAVE (R86, R87, R381, R384, R386): each field of the image in the layout that OP_SIZE and CPU_MODE choose
(`imageOf` gives the offsets and words) reads back at its offset, and no byte outside the image changes; then FNSTENV masks
every exception and clears ES and B, and FNSAVE does what FNINIT does. A write fault is handed over with the fields before it
stored, and nothing else changed (R85). -/
def Obligations.StoresEnvironment : Prop :=
  ∀ (save : Bool) (s : State) (m : MemOp), Ready .nonwaiting s → Memory.wf s.mem = true →
    let i := if save then Instr.fnsave m else .fnstenv m
    (Writable s m (imageSize s save) →
      ∃ t, exec i s = .next t ∧
        (∀ f ∈ imageOf s save, readLE t.mem (s.addr m + BitVec.ofNat 32 f.off) f.len = f.value) ∧
        (∀ x : Nat, (∀ k, k < imageSize s save → x ≠ (s.addr m + BitVec.ofNat 32 k).toNat) →
          readByte t.mem x = readByte s.mem x) ∧
        if save then t = { s with mem := t.mem, completion := .normal }.fninit
        else
          OnlyStatus { s with mem := t.mem, cw := s.cw ||| 0x003F } t ∧ t.sw &&& 0x387F = s.sw &&& 0x387F ∧
            swES t.sw = false ∧ t.sw.getLsbD 15 = false) ∧
    ∀ e, accessFault s.faultMap true (s.addr m) (imageSize s save) = some e →
      ∃ k f, (imageOf s save)[k]? = some f ∧
        accessFault s.faultMap true (s.addr m + BitVec.ofNat 32 f.off) f.len = some e ∧
        exec i s = .next ({ s with mem := afterFields s m (imageOf s save) k }.raiseCpu e.vector)

/-- FLDENV and FRSTOR (R86, R87, R382, R383, R385, R387): the environment, read in the layout that OP_SIZE and CPU_MODE choose
(`envAt` gives the offsets and bits), is installed; FRSTOR first loads ST(i), relative to the
loaded TOP, from the i-th 10-byte image, and FLDENV leaves the registers alone. Nothing else changes. -/
def Obligations.LoadsEnvironment : Prop :=
  ∀ (restore : Bool) (s : State) (m : MemOp), Ready .waiting s → Readable s m (imageSize s restore) →
    let i := if restore then Instr.frstor m else .fldenv m
    let e := envAt s m
    ∃ t, exec i s = .next t ∧ Installed t e ∧
      (if restore then
        ∀ j : BitVec 3, t.reg (e.sw.extractLsb' 11 3 + j) =
          BitVec.ofNat 80 (readLE s.mem (s.addr m + BitVec.ofNat 32 (imageSize s false + 10 * j.toNat)) 10)
      else t.regs = s.regs) ∧
      t = { s with
        regs := t.regs
        tags := t.tags
        cw := t.cw
        sw := t.sw
        fip := t.fip
        fcs := t.fcs
        fop := t.fop
        fdp := t.fdp
        fds := t.fds
        completion := .normal }

/-- FNSAVE and then FRSTOR of the same image restores the data registers, the tags, CW and SW, and in the 32-bit protected
layout the pointers too (R386, R387), from every state that has the invariant. -/
def Obligations.SaveRestores : Prop :=
  ∀ (s : State) (m : MemOp), Inv s → Ready .nonwaiting s → Writable s m (imageSize s true) → Readable s m (imageSize s true) →
    ∃ t u, exec (.fnsave m) s = .next t ∧ exec (.frstor m) t = .next u ∧ u.regs = s.regs ∧ u.tags = s.tags ∧ u.cw = s.cw ∧
      u.sw = s.sw ∧
      (s.inp.opSize = .o32 → s.mode = .prot → u.fip = s.fip ∧ u.fcs = s.fcs ∧ u.fop = s.fop ∧ u.fdp = s.fdp ∧ u.fds = s.fds)

/-! ## Numerics -/

/-- Rounding, overflow and underflow (R157 to R163). For a nonzero magnitude x and the real r it stands for, `round_p,RC` is the
member of F(p, emin) that RC and the sign choose. With v its value: an overflow, v ≥ 2^(emax+1), raises OE and delivers, masked,
∞ or MAXp by R160's table, with PE and C1 = 1 for ∞; unmasked, nothing to memory and to a register the rounding of
r * 2^-24576. A tiny r raises UE, masked only when inexact, and delivers, unmasked, nothing to memory and to a register the
rounding of r * 2^24576. Else the rounding itself is delivered. PE is inexactness and C1 the round-up of what is delivered. A
bias-adjusted result that is still out of range is unstated (the model's choice, notes/assumptions/20.md), and memory gets C1 = 0
and no PE (21.md). A finite magnitude of at most 64 bits packs into a pattern of its value, never a pseudo-denormal (R159). A
register result is what is delivered with the exponents of the extended format, packed. -/
def Obligations.RoundsAndDelivers : Prop :=
  (∀ (f : Fmt) (rc : RC) (neg : Bool) (x : Mag) (r : ℝ),
    1 ≤ f.p → x.m ≠ 0 → x.Stands r → (x.sticky = true → x.e < (roundTo f rc neg x).g) →
      RoundsIn f rc neg r (roundTo f rc neg x)) ∧
  (∀ (c : RoundCtx) (neg : Bool) (x : Mag) (r : ℝ),
    2 ≤ c.fmt.p → c.fmt.emin ≤ c.fmt.emax → x.m ≠ 0 → x.Stands r → (x.sticky = true → 2 ^ c.fmt.p ≤ x.m) →
      let rc := rcOf c.cw
      let y := roundTo c.fmt rc neg x
      let w := roundUnbounded c.fmt rc neg x
      let d := deliver c neg x
      let v : ℝ := y.q * (2 : ℝ) ^ y.g
      let max : ℝ := (2 : ℝ) ^ (c.fmt.emax + 1)
      let min : ℝ := (2 : ℝ) ^ c.fmt.emin
      let away := rc = .rn ∨ (rc = .rd ∧ neg = true) ∨ (rc = .ru ∧ neg = false)
      RoundsUnbounded c.fmt rc neg r w ∧
      (max ≤ v →
        (c.cw.getLsbD 3 = true →
          (away → d = ⟨.infinity, { oe := true, pe := true }, true⟩) ∧
          (¬away → d = ⟨.finite (2 ^ c.fmt.p - 1) (c.fmt.emax - (c.fmt.p - 1)), { oe := true, pe := true }, false⟩)) ∧
        (c.cw.getLsbD 3 = false →
          (c.toMemory = true → d = ⟨.nothing, { oe := true }, false⟩) ∧
          (c.toMemory = false → ∃ z, RoundsIn c.fmt rc neg (r * (2 : ℝ) ^ (-24576 : ℤ)) z ∧
            d.exc = { oe := true, pe := z.inexact } ∧ d.c1 = z.up ∧
            (z.q * (2 : ℝ) ^ z.g < max → d.out = .finite z.q z.g) ∧ (max ≤ z.q * (2 : ℝ) ^ z.g → d.out = .unstated)))) ∧
      (v < max →
        (¬Tiny c.tininess c.fmt r w → d = ⟨.finite y.q y.g, { pe := y.inexact }, y.up⟩) ∧
        (Tiny c.tininess c.fmt r w →
          (c.cw.getLsbD 4 = true → d = ⟨.finite y.q y.g, { ue := y.inexact, pe := y.inexact }, y.up⟩) ∧
          (c.cw.getLsbD 4 = false →
            (c.toMemory = true → d = ⟨.nothing, { ue := true }, false⟩) ∧
            (c.toMemory = false → ∃ z, RoundsIn c.fmt rc neg (r * (2 : ℝ) ^ (24576 : ℤ)) z ∧
              d.exc = { ue := true, pe := z.inexact } ∧ d.c1 = z.up ∧
              (min ≤ z.q * (2 : ℝ) ^ z.g → d.out = .finite z.q z.g) ∧
              (z.q * (2 : ℝ) ^ z.g < min → d.out = .unstated)))))) ∧
  (∀ (neg : Bool) (q : Nat) (g : Int), q ≤ 2 ^ 64 → -16445 ≤ g → floorLog2 q g ≤ 16383 →
    Holds (pack neg q g) (if neg then -(q * (2 : ℝ) ^ g) else q * (2 : ℝ) ^ g) ∧ signOf (pack neg q g) = neg ∧
      classOf (pack neg q g) ≠ .pseudoDenormal) ∧
  ∀ (c : NumCtx) (neg : Bool) (x : Mag),
    let d := deliver ⟨c.cw, c.tininess, ⟨c.p, -16382, 16383⟩, false⟩ neg x
    let r := roundReg c neg x
    r.exc = d.exc ∧ r.c1 = d.c1 ∧ (∀ q g, d.out = .finite q g → r.v = pack neg q g) ∧
      (d.out = .infinity → r.v = infinityOf neg) ∧ (d.out = .unstated → r.v = c.free) ∧ d.out ≠ .nothing

/-- The sum, product, quotient and square root are rounded once, from the exact real (R180 to R183): what is rounded stands
for it, to more bits than any destination has; FSQRT of a positive finite pattern rounds that root, with DE when it is denormal.
An exact zero has the sign R164 gives it. -/
def Obligations.ExactBeforeRounding : Prop :=
  (∀ (c : NumCtx) (a b : Val) (ra rb : ℝ), a.Is ra → b.Is rb →
    (ra + rb ≠ 0 → ∃ x : Mag, addVal c a b = roundReg c (decide (ra + rb < 0)) x ∧ x.Stands |ra + rb| ∧ x.sticky = false) ∧
    (ra + rb = 0 →
      (ra = 0 → a.neg = b.neg → addVal c a b = ⟨zeroOf a.neg, Exc.clear, false⟩) ∧
      (ra ≠ 0 ∨ a.neg ≠ b.neg → addVal c a b = ⟨zeroOf (rcOf c.cw == .rd), Exc.clear, false⟩)) ∧
    (ra * rb ≠ 0 → ∃ x : Mag, mulVal c a b = roundReg c (a.neg != b.neg) x ∧ x.Stands |ra * rb| ∧ x.sticky = false) ∧
    (ra * rb = 0 → mulVal c a b = ⟨zeroOf (a.neg != b.neg), Exc.clear, false⟩) ∧
    (ra ≠ 0 → rb ≠ 0 → b.m < 2 ^ 64 →
      ∃ x : Mag, divVal c a b = roundReg c (a.neg != b.neg) x ∧ x.Stands |ra / rb| ∧ 2 ^ 66 ≤ x.m) ∧
    (ra = 0 → rb ≠ 0 → divVal c a b = ⟨zeroOf (a.neg != b.neg), Exc.clear, false⟩) ∧
    (a.m ≠ 0 → a.m < 2 ^ 64 → (rootMag a.m a.e).Stands (Real.sqrt |ra|) ∧ 2 ^ 65 ≤ (rootMag a.m a.e).m)) ∧
  ∀ (c : NumCtx) (v : F80), isFinite v = true → isZero v = false → signOf v = false →
    (valOf v).m ≠ 0 ∧ (valOf v).m < 2 ^ 64 ∧
      sqrtResult c v = (roundReg c false (rootMag (valOf v).m (valOf v).e)).withDE (isDenormal v)

/-- The reduction of FPREM and FPREM1 on nonzero values (R300, R301): with D < 64 the quotient is a/b truncated, or rounded to
nearest with ties to even, and the remainder a - q*b is exact; with D ≥ 64 a multiple of b is subtracted, and the exponent
drops by at least N. That a zero remainder of FPREM keeps
a's sign there too is the model's choice (notes/assumptions/43.md). -/
def Obligations.ExactRemainder : Prop :=
  ∀ (nearest : Bool) (N : Nat) (a b : Val) (ra rb : ℝ),
    a.Is ra → b.Is rb → a.m ≠ 0 → b.m ≠ 0 → 32 ≤ N → N ≤ 63 →
      let D := floorLog2 a.m a.e - floorLog2 b.m b.e
      let r := reduce nearest N a b
      let mag : ℝ := r.mag.m * (2 : ℝ) ^ r.mag.e
      let signed : ℝ := if r.neg then -mag else mag
      r.mag.sticky = false ∧
      (D < 64 → ∃ q : Nat, r.quot = some q ∧ signed = ra - (if a.neg = b.neg then (q : ℝ) else -q) * rb ∧
        (nearest = false → mag < |rb| ∧ (r.neg = a.neg)) ∧
        (nearest = true → mag ≤ |rb| / 2 ∧ (mag = |rb| / 2 → q % 2 = 0))) ∧
      (64 ≤ D → r.quot = none ∧ r.neg = a.neg ∧ ∃ q : Nat, mag = |ra| - q * |rb| ∧ mag < |rb| * (2 : ℝ) ^ (D - N))

/-- Conversions. Integers load exactly and store back (R156); STORE_INT stores `RNDINT_RC` of a finite value with PE and C1, and
the indefinite with IE out of range and for what is not finite (R171), where C1 = 0 is the model's choice out of range, as it is
for STORE_BCD (notes/assumptions/42.md). FRNDINT delivers `RNDINT_RC` with a's sign (R174, R297),
and FSCALE rounds a times 2 to the power of b truncated (R298). An m80bcd image with valid digits loads exactly, bits 6:0 of byte
9 ignored, and stores back, an invalid digit is a draw, and STORE_BCD stores the digits of `RNDINT_RC`, or the indefinite (R84,
R172, R173). An m32fp or m64fp image loads exactly, a denormal with DE, an SNaN quieted with IE, and stores back with no flag,
an SNaN as quieted and a denormal when UM masks underflow (R152, R155, R170). -/
def Obligations.ConversionsRoundTrip : Prop :=
  (∀ N ∈ [16, 32, 64], ∀ (n : Nat) (cw : Word16), n < 2 ^ N →
    Holds (loadInt N n) (if n < 2 ^ (N - 1) then (n : ℝ) else (n : ℝ) - 2 ^ N) ∧
    storeInt cw N (loadInt N n) = ⟨some n, Exc.clear, false⟩) ∧
  (∀ N ∈ [16, 32, 64], ∀ (cw : Word16) (v : F80),
    (isFinite v = false → storeInt cw N v = ⟨some (2 ^ (N - 1)), Exc.invalid, false⟩) ∧
    ∀ rv : ℝ, Holds v rv → ∃ n : ℤ, RoundsInt (rcOf cw) rv n ∧
      (n < -2 ^ (N - 1) ∨ 2 ^ (N - 1) ≤ n → storeInt cw N v = ⟨some (2 ^ (N - 1)), Exc.invalid, false⟩) ∧
      (-2 ^ (N - 1) ≤ n → n < 2 ^ (N - 1) → StoresInt (storeInt cw N v) (n % 2 ^ N).toNat rv n)) ∧
  (∀ (c : NumCtx) (a : F80) (ra : ℝ), Holds a ra → ra ≠ 0 → ∃ n : ℤ, RoundsInt (rcOf c.cw) ra n ∧
    let r := rndintResult c a
    Holds r.v n ∧ signOf r.v = signOf a ∧ r.exc = { de := isDenormal a, pe := r.exc.pe } ∧
      (r.exc.pe = true ↔ (n : ℝ) ≠ ra) ∧ (r.c1 = true ↔ |ra| < |(n : ℝ)|)) ∧
  (∀ (c : NumCtx) (a b : F80) (ra rb : ℝ), Holds a ra → ra ≠ 0 → Holds b rb → ∃ n : ℤ, RoundsInt .rz rb n ∧
    scaleResult c a b =
      (roundReg c (signOf a) ⟨(valOf a).m, (valOf a).e + n, false⟩).withDE (isDenormal a || isDenormal b)) ∧
  (∀ (neg : Bool) (ignored : Nat) (ds : List Nat), ignored < 2 ^ 7 → ds.length = 18 → (∀ d ∈ ds, d < 16) →
    ((∃ d ∈ ds, 9 < d) → loadBcd (bcdImage neg ignored ds) = none) ∧
    ((∀ d ∈ ds, d ≤ 9) → ∃ v, loadBcd (bcdImage neg ignored ds) = some v ∧
      Holds v (if neg then -(placeValue 10 ds : ℝ) else placeValue 10 ds) ∧ signOf v = neg ∧
      ∀ cw, storeBcd cw v = ⟨some (bcdImage neg 0 ds), Exc.clear, false⟩)) ∧
  (∀ (cw : Word16) (v : F80),
    (isFinite v = false → storeBcd cw v = ⟨some 0xFFFFC000000000000000, Exc.invalid, false⟩) ∧
    ∀ rv : ℝ, Holds v rv → ∃ n : ℤ, RoundsInt (rcOf cw) rv n ∧
      (10 ^ 18 ≤ |n| → storeBcd cw v = ⟨some 0xFFFFC000000000000000, Exc.invalid, false⟩) ∧
      (|n| < 10 ^ 18 → ∃ ds : List Nat, ds.length = 18 ∧ (∀ d ∈ ds, d ≤ 9) ∧ (placeValue 10 ds : ℤ) = |n| ∧
        StoresInt (storeBcd cw v) (bcdImage (signOf v) 0 ds) rv n)) ∧
  (∀ (f : MemFp) (m : Nat), m < 2 ^ (8 * f.bytes) →
    let neg := m.testBit (8 * f.bytes - 1)
    let e := m / 2 ^ f.frac % (f.expMax + 1)
    let frac := m % 2 ^ f.frac
    let quietBit := 2 ^ (f.frac - 1)
    let x := loadFp f m
    (e = f.expMax → frac = 0 →
      x = (infinityOf neg, Exc.clear) ∧ ∀ cw t, storeFp cw t f x.1 = ⟨some m, Exc.clear, false⟩) ∧
    (e = f.expMax → frac ≠ 0 →
      x = (mkF80 neg 0x7FFF (2 ^ 63 + (frac ||| quietBit) * 2 ^ (63 - f.frac)), { ie := decide (frac < quietBit) }) ∧
      ∀ cw t, storeFp cw t f x.1 = ⟨some (m ||| quietBit), Exc.clear, false⟩) ∧
    (e ≠ f.expMax →
      (let value : ℝ :=
        if e = 0 then frac * (2 : ℝ) ^ (f.fmt.emin - f.frac)
        else ((2 ^ f.frac + frac : Nat) : ℝ) * (2 : ℝ) ^ ((e : ℤ) - f.bias - f.frac)
      Holds x.1 (if neg then -value else value)) ∧
      signOf x.1 = neg ∧ isDenormal x.1 = false ∧ x.2 = { de := decide (e = 0 ∧ frac ≠ 0) } ∧
      ∀ (cw : Word16) (t : Tininess), e ≠ 0 ∨ frac = 0 ∨ cw.getLsbD 4 = true →
        storeFp cw t f x.1 = ⟨some m, Exc.clear, false⟩)) ∧
  ∀ (f : MemFp) (cw : Word16) (t : Tininess) (v : F80),
    (isUnsupported v = true → storeFp cw t f v = ⟨some f.indefinite, Exc.invalid, false⟩) ∧
    (isNan v = true → (storeFp cw t f v).exc = { ie := isSnan v } ∧ (storeFp cw t f v).c1 = false ∧
      (storeFp cw t f v).bits = some (f.pack (signOf v) f.expMax
        ((manOf (v ||| BitVec.twoPow 80 62)).toNat % 2 ^ 63 / 2 ^ (63 - f.frac)))) ∧
    (isFinite v = true → isZero v = false →
      let d := deliver ⟨cw, t, f.fmt, true⟩ (signOf v) ⟨(valOf v).m, (valOf v).e, false⟩
      (storeFp cw t f v).exc = d.exc ∧ (storeFp cw t f v).c1 = d.c1 ∧ (storeFp cw t f v).bits = deliveredBits f (signOf v) d.out) ∧
    ∀ (neg : Bool) (q : Nat) (g : Int), q ≤ 2 ^ f.fmt.p → f.fmt.emin - f.frac ≤ g → floorLog2 q g ≤ f.fmt.emax →
      deliveredBits f neg (.finite q g) = some (packFp f neg q g) ∧ packFp f neg q g < 2 ^ (8 * f.bytes) ∧
        Holds (loadFp f (packFp f neg q g)).1 (if neg then -(q * (2 : ℝ) ^ g) else q * (2 : ℝ) ^ g)

/-- What a compare answers (R320), for register and memory operands. An unsupported or signalling operand is UNORDERED with
IE, and a quiet NaN UNORDERED, with IE in an ordered compare alone. Else DE is raised when an operand is denormal, and the
relation is that of the extended reals: infinities of one sign are equal, -∞ is below and +∞ above every finite value, and
finite values compare exactly. -/
def Obligations.ExactCompare : Prop :=
  (∀ (ordered : Bool) (a b : Operand),
    let r := compareResult ordered a b
    let special := isUnsupported a.v || isUnsupported b.v || isSnan a.v || isSnan b.v
    (special = true → r = (.unordered, Exc.invalid)) ∧
    (special = false → isNan a.v || isNan b.v → r = (.unordered, { ie := ordered })) ∧
    (isFinite a.v || isInf a.v → isFinite b.v || isInf b.v → r.2 = { de := a.denormal || b.denormal }) ∧
    (isInf a.v = true → isInf b.v = true →
      r.1 = if signOf a.v = signOf b.v then .eq else if signOf a.v then .lt else .gt) ∧
    (isInf a.v = true → isFinite b.v = true → r.1 = if signOf a.v then .lt else .gt) ∧
    (isFinite a.v = true → isInf b.v = true → r.1 = if signOf b.v then .gt else .lt) ∧
    ∀ ra rb : ℝ, Holds a.v ra → Holds b.v rb →
      (r.1 = .gt ↔ rb < ra) ∧ (r.1 = .lt ↔ ra < rb) ∧ (r.1 = .eq ↔ ra = rb)) ∧
  ∀ (a b : Val) (ra rb : ℝ), a.Is ra → b.Is rb →
    (compareVal a b = .gt ↔ rb < ra) ∧ (compareVal a b = .lt ↔ ra < rb) ∧ (compareVal a b = .eq ↔ ra = rb)

/-- The operand classes of the binary operations, in the order of R175. An unsupported operand gives real indefinite and IE
(R167). A NaN operand decides the result (R165): IE is raised exactly for a signalling one, and the result is a NaN that is no
longer signalling, taken from an operand: quieted, the only NaN; or, of a signalling and a quiet one, the quiet one; or, of two
of a kind, the one with the larger significand, and of equal ones the one with sign 0. Opposite infinities summed, zero times
infinity, 0/0 and infinity/infinity give real indefinite and IE, and a finite nonzero number over 0 an infinity and ZE; then an
infinity, or its reciprocal zero; else the rounded exact result (R180 to R182); DE when an operand is denormal (R168). A register
operand is denormal by its class, and an m32fp or m64fp operand by the class of its image, which is widened exactly with its
class kept: a denormal to a NORMAL pattern, a signalling NaN to a signalling one (R152, R185). -/
def Obligations.OperandClasses : Prop :=
  (∀ (k : ArithOp) (c : NumCtx) (x y : Operand),
    let a := x.v
    let b := y.v
    let q := fun v : F80 => v ||| BitVec.twoPow 80 62
    let r := arithResult k c x y
    let invalid : Result := ⟨realIndefinite, Exc.invalid, false⟩
    let s := signOf a != signOf b
    let de : Exc := { de := x.denormal || y.denormal }
    (isUnsupported a || isUnsupported b → r = invalid) ∧
    (isUnsupported a = false → isUnsupported b = false → isNan a || isNan b →
      r.exc = { ie := isSnan a || isSnan b } ∧ r.c1 = false ∧ classOf r.v = .qnan ∧
        (isNan b = false → r.v = q a) ∧ (isNan a = false → r.v = q b) ∧
        (isSnan a = true → isNan b = true → isSnan b = false → r.v = b) ∧
        (isSnan b = true → isNan a = true → isSnan a = false → r.v = a) ∧
        (isNan a = true → isNan b = true → isSnan a = isSnan b →
          (r.v = q a ∨ r.v = q b) ∧ (manOf (q a)).toNat ≤ (manOf r.v).toNat ∧ (manOf (q b)).toNat ≤ (manOf r.v).toNat ∧
            (manOf (q a) = manOf (q b) → signOf r.v = (signOf a && signOf b)))) ∧
    (isFinite a || isInf a → isFinite b || isInf b →
      match k with
      | .add =>
        (isInf a = true → isInf b = true → r = if s then invalid else ⟨a, Exc.clear, false⟩) ∧
        (isInf a = true → isInf b = false → r = ⟨a, de, false⟩) ∧ (isInf a = false → isInf b = true → r = ⟨b, de, false⟩) ∧
        (isInf a = false → isInf b = false → r = (addVal c (valOf a) (valOf b)).withDE de.de)
      | .sub =>
        (isInf a = true → isInf b = true → r = if s then ⟨a, Exc.clear, false⟩ else invalid) ∧
        (isInf a = true → isInf b = false → r = ⟨a, de, false⟩) ∧
        (isInf a = false → isInf b = true → r = ⟨infinityOf (!signOf b), de, false⟩) ∧
        (isInf a = false → isInf b = false →
          r = (addVal c (valOf a) ⟨!signOf b, (valOf b).m, (valOf b).e⟩).withDE de.de)
      | .mul =>
        (isInf a = true → isZero b = true → r = invalid) ∧ (isZero a = true → isInf b = true → r = invalid) ∧
        (isInf a || isInf b → isZero a = false → isZero b = false → r = ⟨infinityOf s, de, false⟩) ∧
        (isInf a = false → isInf b = false → r = (mulVal c (valOf a) (valOf b)).withDE de.de)
      | .div =>
        (isZero a = true → isZero b = true → r = invalid) ∧ (isInf a = true → isInf b = true → r = invalid) ∧
        (isFinite a = true → isZero a = false → isZero b = true → r = ⟨infinityOf s, { ze := true }, false⟩) ∧
        (isInf a = true → isInf b = false → r = ⟨infinityOf s, de, false⟩) ∧
        (isInf a = false → isInf b = true → r = ⟨zeroOf s, de, false⟩) ∧
        (isInf a = false → isFinite b = true → isZero b = false → r = (divVal c (valOf a) (valOf b)).withDE de.de))) ∧
  (∀ v : F80, Operand.reg v = ⟨v, isDenormal v⟩) ∧
  ∀ (f : MemFp) (m : Nat), m < 2 ^ (8 * f.bytes) →
    let neg := m.testBit (8 * f.bytes - 1)
    let e := m / 2 ^ f.frac % (f.expMax + 1)
    let frac := m % 2 ^ f.frac
    let x := widenFp f m
    (e = f.expMax → x.denormal = false ∧
      (frac = 0 → x.v = infinityOf neg) ∧
      (frac ≠ 0 → x.v = mkF80 neg 0x7FFF (2 ^ 63 + frac * 2 ^ (63 - f.frac)) ∧ isNan x.v = true ∧
        isSnan x.v = decide (frac < 2 ^ (f.frac - 1)))) ∧
    (e ≠ f.expMax → x.denormal = decide (e = 0 ∧ frac ≠ 0) ∧ signOf x.v = neg ∧ isDenormal x.v = false ∧
      (let value : ℝ :=
        if e = 0 then frac * (2 : ℝ) ^ (f.fmt.emin - f.frac)
        else ((2 ^ f.frac + frac : Nat) : ℝ) * (2 : ℝ) ^ ((e : ℤ) - f.bias - f.frac)
      Holds x.v (if neg then -value else value)))
end

