-- ==== Sys2Proof/Laws/State.lean ====
section
/-! SUPPORT. The fields of the state after each update: one lemma for each field and each update. -/

namespace Sys2Proof.Machine

variable (s : State)

/-! ## `setReg` -/

@[simp] theorem setReg_regs (k : BitVec 3) (v : F80) : (s.setReg k v).regs = s.regs.set k.toNat v := rfl
@[simp] theorem setReg_tags (k : BitVec 3) (v : F80) : (s.setReg k v).tags = s.tags.set k.toNat (tagOf v) := rfl
@[simp] theorem setReg_sw (k : BitVec 3) (v : F80) : (s.setReg k v).sw = s.sw := rfl
@[simp] theorem setReg_cw (k : BitVec 3) (v : F80) : (s.setReg k v).cw = s.cw := rfl
@[simp] theorem setReg_fip (k : BitVec 3) (v : F80) : (s.setReg k v).fip = s.fip := rfl
@[simp] theorem setReg_fcs (k : BitVec 3) (v : F80) : (s.setReg k v).fcs = s.fcs := rfl
@[simp] theorem setReg_fop (k : BitVec 3) (v : F80) : (s.setReg k v).fop = s.fop := rfl
@[simp] theorem setReg_fdp (k : BitVec 3) (v : F80) : (s.setReg k v).fdp = s.fdp := rfl
@[simp] theorem setReg_fds (k : BitVec 3) (v : F80) : (s.setReg k v).fds = s.fds := rfl
@[simp] theorem setReg_x87op (k : BitVec 3) (v : F80) : (s.setReg k v).x87op = s.x87op := rfl
@[simp] theorem setReg_cr0 (k : BitVec 3) (v : F80) : (s.setReg k v).cr0 = s.cr0 := rfl
@[simp] theorem setReg_neReq (k : BitVec 3) (v : F80) : (s.setReg k v).neReq = s.neReq := rfl
@[simp] theorem setReg_irq13 (k : BitVec 3) (v : F80) : (s.setReg k v).irq13 = s.irq13 := rfl
@[simp] theorem setReg_cycles (k : BitVec 3) (v : F80) : (s.setReg k v).cycles = s.cycles := rfl
@[simp] theorem setReg_gpr (k : BitVec 3) (v : F80) : (s.setReg k v).gpr = s.gpr := rfl
@[simp] theorem setReg_eflags (k : BitVec 3) (v : F80) : (s.setReg k v).eflags = s.eflags := rfl
@[simp] theorem setReg_eip (k : BitVec 3) (v : F80) : (s.setReg k v).eip = s.eip := rfl
@[simp] theorem setReg_segs (k : BitVec 3) (v : F80) : (s.setReg k v).segs = s.segs := rfl
@[simp] theorem setReg_code32 (k : BitVec 3) (v : F80) : (s.setReg k v).code32 = s.code32 := rfl
@[simp] theorem setReg_mode (k : BitVec 3) (v : F80) : (s.setReg k v).mode = s.mode := rfl
@[simp] theorem setReg_mem (k : BitVec 3) (v : F80) : (s.setReg k v).mem = s.mem := rfl
@[simp] theorem setReg_faultMap (k : BitVec 3) (v : F80) : (s.setReg k v).faultMap = s.faultMap := rfl
@[simp] theorem setReg_cpuFault (k : BitVec 3) (v : F80) : (s.setReg k v).cpuFault = s.cpuFault := rfl
@[simp] theorem setReg_completion (k : BitVec 3) (v : F80) : (s.setReg k v).completion = s.completion := rfl
@[simp] theorem setReg_inp (k : BitVec 3) (v : F80) : (s.setReg k v).inp = s.inp := rfl
@[simp] theorem setReg_params (k : BitVec 3) (v : F80) : (s.setReg k v).params = s.params := rfl
@[simp] theorem setReg_draws (k : BitVec 3) (v : F80) : (s.setReg k v).draws = s.draws := rfl

/-! ## `freeReg` -/

@[simp] theorem freeReg_regs (k : BitVec 3) : (s.freeReg k).regs = s.regs := rfl
@[simp] theorem freeReg_tags (k : BitVec 3) : (s.freeReg k).tags = s.tags.set k.toNat .empty := rfl
@[simp] theorem freeReg_sw (k : BitVec 3) : (s.freeReg k).sw = s.sw := rfl
@[simp] theorem freeReg_cw (k : BitVec 3) : (s.freeReg k).cw = s.cw := rfl
@[simp] theorem freeReg_fip (k : BitVec 3) : (s.freeReg k).fip = s.fip := rfl
@[simp] theorem freeReg_fcs (k : BitVec 3) : (s.freeReg k).fcs = s.fcs := rfl
@[simp] theorem freeReg_fop (k : BitVec 3) : (s.freeReg k).fop = s.fop := rfl
@[simp] theorem freeReg_fdp (k : BitVec 3) : (s.freeReg k).fdp = s.fdp := rfl
@[simp] theorem freeReg_fds (k : BitVec 3) : (s.freeReg k).fds = s.fds := rfl
@[simp] theorem freeReg_x87op (k : BitVec 3) : (s.freeReg k).x87op = s.x87op := rfl
@[simp] theorem freeReg_cr0 (k : BitVec 3) : (s.freeReg k).cr0 = s.cr0 := rfl
@[simp] theorem freeReg_neReq (k : BitVec 3) : (s.freeReg k).neReq = s.neReq := rfl
@[simp] theorem freeReg_irq13 (k : BitVec 3) : (s.freeReg k).irq13 = s.irq13 := rfl
@[simp] theorem freeReg_cycles (k : BitVec 3) : (s.freeReg k).cycles = s.cycles := rfl
@[simp] theorem freeReg_gpr (k : BitVec 3) : (s.freeReg k).gpr = s.gpr := rfl
@[simp] theorem freeReg_eflags (k : BitVec 3) : (s.freeReg k).eflags = s.eflags := rfl
@[simp] theorem freeReg_eip (k : BitVec 3) : (s.freeReg k).eip = s.eip := rfl
@[simp] theorem freeReg_segs (k : BitVec 3) : (s.freeReg k).segs = s.segs := rfl
@[simp] theorem freeReg_code32 (k : BitVec 3) : (s.freeReg k).code32 = s.code32 := rfl
@[simp] theorem freeReg_mode (k : BitVec 3) : (s.freeReg k).mode = s.mode := rfl
@[simp] theorem freeReg_mem (k : BitVec 3) : (s.freeReg k).mem = s.mem := rfl
@[simp] theorem freeReg_faultMap (k : BitVec 3) : (s.freeReg k).faultMap = s.faultMap := rfl
@[simp] theorem freeReg_cpuFault (k : BitVec 3) : (s.freeReg k).cpuFault = s.cpuFault := rfl
@[simp] theorem freeReg_completion (k : BitVec 3) : (s.freeReg k).completion = s.completion := rfl
@[simp] theorem freeReg_inp (k : BitVec 3) : (s.freeReg k).inp = s.inp := rfl
@[simp] theorem freeReg_params (k : BitVec 3) : (s.freeReg k).params = s.params := rfl
@[simp] theorem freeReg_draws (k : BitVec 3) : (s.freeReg k).draws = s.draws := rfl

/-! ## `withTop` -/

@[simp] theorem withTop_regs (t : BitVec 3) : (s.withTop t).regs = s.regs := rfl
@[simp] theorem withTop_tags (t : BitVec 3) : (s.withTop t).tags = s.tags := rfl
@[simp] theorem withTop_sw (t : BitVec 3) : (s.withTop t).sw = setTop s.sw t := rfl
@[simp] theorem withTop_cw (t : BitVec 3) : (s.withTop t).cw = s.cw := rfl
@[simp] theorem withTop_fip (t : BitVec 3) : (s.withTop t).fip = s.fip := rfl
@[simp] theorem withTop_fcs (t : BitVec 3) : (s.withTop t).fcs = s.fcs := rfl
@[simp] theorem withTop_fop (t : BitVec 3) : (s.withTop t).fop = s.fop := rfl
@[simp] theorem withTop_fdp (t : BitVec 3) : (s.withTop t).fdp = s.fdp := rfl
@[simp] theorem withTop_fds (t : BitVec 3) : (s.withTop t).fds = s.fds := rfl
@[simp] theorem withTop_x87op (t : BitVec 3) : (s.withTop t).x87op = s.x87op := rfl
@[simp] theorem withTop_cr0 (t : BitVec 3) : (s.withTop t).cr0 = s.cr0 := rfl
@[simp] theorem withTop_neReq (t : BitVec 3) : (s.withTop t).neReq = s.neReq := rfl
@[simp] theorem withTop_irq13 (t : BitVec 3) : (s.withTop t).irq13 = s.irq13 := rfl
@[simp] theorem withTop_cycles (t : BitVec 3) : (s.withTop t).cycles = s.cycles := rfl
@[simp] theorem withTop_gpr (t : BitVec 3) : (s.withTop t).gpr = s.gpr := rfl
@[simp] theorem withTop_eflags (t : BitVec 3) : (s.withTop t).eflags = s.eflags := rfl
@[simp] theorem withTop_eip (t : BitVec 3) : (s.withTop t).eip = s.eip := rfl
@[simp] theorem withTop_segs (t : BitVec 3) : (s.withTop t).segs = s.segs := rfl
@[simp] theorem withTop_code32 (t : BitVec 3) : (s.withTop t).code32 = s.code32 := rfl
@[simp] theorem withTop_mode (t : BitVec 3) : (s.withTop t).mode = s.mode := rfl
@[simp] theorem withTop_mem (t : BitVec 3) : (s.withTop t).mem = s.mem := rfl
@[simp] theorem withTop_faultMap (t : BitVec 3) : (s.withTop t).faultMap = s.faultMap := rfl
@[simp] theorem withTop_cpuFault (t : BitVec 3) : (s.withTop t).cpuFault = s.cpuFault := rfl
@[simp] theorem withTop_completion (t : BitVec 3) : (s.withTop t).completion = s.completion := rfl
@[simp] theorem withTop_inp (t : BitVec 3) : (s.withTop t).inp = s.inp := rfl
@[simp] theorem withTop_params (t : BitVec 3) : (s.withTop t).params = s.params := rfl
@[simp] theorem withTop_draws (t : BitVec 3) : (s.withTop t).draws = s.draws := rfl

/-! ## `writeSt` -/

@[simp] theorem writeSt_regs (i : BitVec 3) (v : F80) : (s.writeSt i v).regs = s.regs.set (s.phys i).toNat v := rfl
@[simp] theorem writeSt_tags (i : BitVec 3) (v : F80) : (s.writeSt i v).tags = s.tags.set (s.phys i).toNat (tagOf v) := rfl
@[simp] theorem writeSt_sw (i : BitVec 3) (v : F80) : (s.writeSt i v).sw = s.sw := rfl
@[simp] theorem writeSt_cw (i : BitVec 3) (v : F80) : (s.writeSt i v).cw = s.cw := rfl
@[simp] theorem writeSt_fip (i : BitVec 3) (v : F80) : (s.writeSt i v).fip = s.fip := rfl
@[simp] theorem writeSt_fcs (i : BitVec 3) (v : F80) : (s.writeSt i v).fcs = s.fcs := rfl
@[simp] theorem writeSt_fop (i : BitVec 3) (v : F80) : (s.writeSt i v).fop = s.fop := rfl
@[simp] theorem writeSt_fdp (i : BitVec 3) (v : F80) : (s.writeSt i v).fdp = s.fdp := rfl
@[simp] theorem writeSt_fds (i : BitVec 3) (v : F80) : (s.writeSt i v).fds = s.fds := rfl
@[simp] theorem writeSt_x87op (i : BitVec 3) (v : F80) : (s.writeSt i v).x87op = s.x87op := rfl
@[simp] theorem writeSt_cr0 (i : BitVec 3) (v : F80) : (s.writeSt i v).cr0 = s.cr0 := rfl
@[simp] theorem writeSt_neReq (i : BitVec 3) (v : F80) : (s.writeSt i v).neReq = s.neReq := rfl
@[simp] theorem writeSt_irq13 (i : BitVec 3) (v : F80) : (s.writeSt i v).irq13 = s.irq13 := rfl
@[simp] theorem writeSt_cycles (i : BitVec 3) (v : F80) : (s.writeSt i v).cycles = s.cycles := rfl
@[simp] theorem writeSt_gpr (i : BitVec 3) (v : F80) : (s.writeSt i v).gpr = s.gpr := rfl
@[simp] theorem writeSt_eflags (i : BitVec 3) (v : F80) : (s.writeSt i v).eflags = s.eflags := rfl
@[simp] theorem writeSt_eip (i : BitVec 3) (v : F80) : (s.writeSt i v).eip = s.eip := rfl
@[simp] theorem writeSt_segs (i : BitVec 3) (v : F80) : (s.writeSt i v).segs = s.segs := rfl
@[simp] theorem writeSt_code32 (i : BitVec 3) (v : F80) : (s.writeSt i v).code32 = s.code32 := rfl
@[simp] theorem writeSt_mode (i : BitVec 3) (v : F80) : (s.writeSt i v).mode = s.mode := rfl
@[simp] theorem writeSt_mem (i : BitVec 3) (v : F80) : (s.writeSt i v).mem = s.mem := rfl
@[simp] theorem writeSt_faultMap (i : BitVec 3) (v : F80) : (s.writeSt i v).faultMap = s.faultMap := rfl
@[simp] theorem writeSt_cpuFault (i : BitVec 3) (v : F80) : (s.writeSt i v).cpuFault = s.cpuFault := rfl
@[simp] theorem writeSt_completion (i : BitVec 3) (v : F80) : (s.writeSt i v).completion = s.completion := rfl
@[simp] theorem writeSt_inp (i : BitVec 3) (v : F80) : (s.writeSt i v).inp = s.inp := rfl
@[simp] theorem writeSt_params (i : BitVec 3) (v : F80) : (s.writeSt i v).params = s.params := rfl
@[simp] theorem writeSt_draws (i : BitVec 3) (v : F80) : (s.writeSt i v).draws = s.draws := rfl

/-! ## `free` -/

@[simp] theorem free_regs (i : BitVec 3) : (s.free i).regs = s.regs := rfl
@[simp] theorem free_tags (i : BitVec 3) : (s.free i).tags = s.tags.set (s.phys i).toNat .empty := rfl
@[simp] theorem free_sw (i : BitVec 3) : (s.free i).sw = s.sw := rfl
@[simp] theorem free_cw (i : BitVec 3) : (s.free i).cw = s.cw := rfl
@[simp] theorem free_fip (i : BitVec 3) : (s.free i).fip = s.fip := rfl
@[simp] theorem free_fcs (i : BitVec 3) : (s.free i).fcs = s.fcs := rfl
@[simp] theorem free_fop (i : BitVec 3) : (s.free i).fop = s.fop := rfl
@[simp] theorem free_fdp (i : BitVec 3) : (s.free i).fdp = s.fdp := rfl
@[simp] theorem free_fds (i : BitVec 3) : (s.free i).fds = s.fds := rfl
@[simp] theorem free_x87op (i : BitVec 3) : (s.free i).x87op = s.x87op := rfl
@[simp] theorem free_cr0 (i : BitVec 3) : (s.free i).cr0 = s.cr0 := rfl
@[simp] theorem free_neReq (i : BitVec 3) : (s.free i).neReq = s.neReq := rfl
@[simp] theorem free_irq13 (i : BitVec 3) : (s.free i).irq13 = s.irq13 := rfl
@[simp] theorem free_cycles (i : BitVec 3) : (s.free i).cycles = s.cycles := rfl
@[simp] theorem free_gpr (i : BitVec 3) : (s.free i).gpr = s.gpr := rfl
@[simp] theorem free_eflags (i : BitVec 3) : (s.free i).eflags = s.eflags := rfl
@[simp] theorem free_eip (i : BitVec 3) : (s.free i).eip = s.eip := rfl
@[simp] theorem free_segs (i : BitVec 3) : (s.free i).segs = s.segs := rfl
@[simp] theorem free_code32 (i : BitVec 3) : (s.free i).code32 = s.code32 := rfl
@[simp] theorem free_mode (i : BitVec 3) : (s.free i).mode = s.mode := rfl
@[simp] theorem free_mem (i : BitVec 3) : (s.free i).mem = s.mem := rfl
@[simp] theorem free_faultMap (i : BitVec 3) : (s.free i).faultMap = s.faultMap := rfl
@[simp] theorem free_cpuFault (i : BitVec 3) : (s.free i).cpuFault = s.cpuFault := rfl
@[simp] theorem free_completion (i : BitVec 3) : (s.free i).completion = s.completion := rfl
@[simp] theorem free_inp (i : BitVec 3) : (s.free i).inp = s.inp := rfl
@[simp] theorem free_params (i : BitVec 3) : (s.free i).params = s.params := rfl
@[simp] theorem free_draws (i : BitVec 3) : (s.free i).draws = s.draws := rfl

/-! ## `push` -/

@[simp] theorem push_sw (v : F80) : (s.push v).sw = setTop s.sw (s.top - 1) := rfl
@[simp] theorem push_cw (v : F80) : (s.push v).cw = s.cw := rfl
@[simp] theorem push_fip (v : F80) : (s.push v).fip = s.fip := rfl
@[simp] theorem push_fcs (v : F80) : (s.push v).fcs = s.fcs := rfl
@[simp] theorem push_fop (v : F80) : (s.push v).fop = s.fop := rfl
@[simp] theorem push_fdp (v : F80) : (s.push v).fdp = s.fdp := rfl
@[simp] theorem push_fds (v : F80) : (s.push v).fds = s.fds := rfl
@[simp] theorem push_x87op (v : F80) : (s.push v).x87op = s.x87op := rfl
@[simp] theorem push_cr0 (v : F80) : (s.push v).cr0 = s.cr0 := rfl
@[simp] theorem push_neReq (v : F80) : (s.push v).neReq = s.neReq := rfl
@[simp] theorem push_irq13 (v : F80) : (s.push v).irq13 = s.irq13 := rfl
@[simp] theorem push_cycles (v : F80) : (s.push v).cycles = s.cycles := rfl
@[simp] theorem push_gpr (v : F80) : (s.push v).gpr = s.gpr := rfl
@[simp] theorem push_eflags (v : F80) : (s.push v).eflags = s.eflags := rfl
@[simp] theorem push_eip (v : F80) : (s.push v).eip = s.eip := rfl
@[simp] theorem push_segs (v : F80) : (s.push v).segs = s.segs := rfl
@[simp] theorem push_code32 (v : F80) : (s.push v).code32 = s.code32 := rfl
@[simp] theorem push_mode (v : F80) : (s.push v).mode = s.mode := rfl
@[simp] theorem push_mem (v : F80) : (s.push v).mem = s.mem := rfl
@[simp] theorem push_faultMap (v : F80) : (s.push v).faultMap = s.faultMap := rfl
@[simp] theorem push_cpuFault (v : F80) : (s.push v).cpuFault = s.cpuFault := rfl
@[simp] theorem push_completion (v : F80) : (s.push v).completion = s.completion := rfl
@[simp] theorem push_inp (v : F80) : (s.push v).inp = s.inp := rfl
@[simp] theorem push_params (v : F80) : (s.push v).params = s.params := rfl
@[simp] theorem push_draws (v : F80) : (s.push v).draws = s.draws := rfl

/-! ## `pop` -/

@[simp] theorem pop_regs : (s.pop).regs = s.regs := rfl
@[simp] theorem pop_tags : (s.pop).tags = s.tags.set (s.phys 0).toNat .empty := rfl
@[simp] theorem pop_sw : (s.pop).sw = setTop s.sw (s.top + 1) := rfl
@[simp] theorem pop_cw : (s.pop).cw = s.cw := rfl
@[simp] theorem pop_fip : (s.pop).fip = s.fip := rfl
@[simp] theorem pop_fcs : (s.pop).fcs = s.fcs := rfl
@[simp] theorem pop_fop : (s.pop).fop = s.fop := rfl
@[simp] theorem pop_fdp : (s.pop).fdp = s.fdp := rfl
@[simp] theorem pop_fds : (s.pop).fds = s.fds := rfl
@[simp] theorem pop_x87op : (s.pop).x87op = s.x87op := rfl
@[simp] theorem pop_cr0 : (s.pop).cr0 = s.cr0 := rfl
@[simp] theorem pop_neReq : (s.pop).neReq = s.neReq := rfl
@[simp] theorem pop_irq13 : (s.pop).irq13 = s.irq13 := rfl
@[simp] theorem pop_cycles : (s.pop).cycles = s.cycles := rfl
@[simp] theorem pop_gpr : (s.pop).gpr = s.gpr := rfl
@[simp] theorem pop_eflags : (s.pop).eflags = s.eflags := rfl
@[simp] theorem pop_eip : (s.pop).eip = s.eip := rfl
@[simp] theorem pop_segs : (s.pop).segs = s.segs := rfl
@[simp] theorem pop_code32 : (s.pop).code32 = s.code32 := rfl
@[simp] theorem pop_mode : (s.pop).mode = s.mode := rfl
@[simp] theorem pop_mem : (s.pop).mem = s.mem := rfl
@[simp] theorem pop_faultMap : (s.pop).faultMap = s.faultMap := rfl
@[simp] theorem pop_cpuFault : (s.pop).cpuFault = s.cpuFault := rfl
@[simp] theorem pop_completion : (s.pop).completion = s.completion := rfl
@[simp] theorem pop_inp : (s.pop).inp = s.inp := rfl
@[simp] theorem pop_params : (s.pop).params = s.params := rfl
@[simp] theorem pop_draws : (s.pop).draws = s.draws := rfl

/-! ## `pointers` -/

@[simp] theorem pointers_regs : (s.pointers).regs = s.regs := rfl
@[simp] theorem pointers_tags : (s.pointers).tags = s.tags := rfl
@[simp] theorem pointers_sw : (s.pointers).sw = s.sw := rfl
@[simp] theorem pointers_cw : (s.pointers).cw = s.cw := rfl
@[simp] theorem pointers_fip : (s.pointers).fip = s.eip := rfl
@[simp] theorem pointers_fcs : (s.pointers).fcs = s.segs.cs.selector := rfl
@[simp] theorem pointers_fop : (s.pointers).fop = s.x87op.setWidth 11 := rfl
@[simp] theorem pointers_fdp : (s.pointers).fdp = s.fdp := rfl
@[simp] theorem pointers_fds : (s.pointers).fds = s.fds := rfl
@[simp] theorem pointers_x87op : (s.pointers).x87op = s.x87op := rfl
@[simp] theorem pointers_cr0 : (s.pointers).cr0 = s.cr0 := rfl
@[simp] theorem pointers_neReq : (s.pointers).neReq = s.neReq := rfl
@[simp] theorem pointers_irq13 : (s.pointers).irq13 = s.irq13 := rfl
@[simp] theorem pointers_cycles : (s.pointers).cycles = s.cycles := rfl
@[simp] theorem pointers_gpr : (s.pointers).gpr = s.gpr := rfl
@[simp] theorem pointers_eflags : (s.pointers).eflags = s.eflags := rfl
@[simp] theorem pointers_eip : (s.pointers).eip = s.eip := rfl
@[simp] theorem pointers_segs : (s.pointers).segs = s.segs := rfl
@[simp] theorem pointers_code32 : (s.pointers).code32 = s.code32 := rfl
@[simp] theorem pointers_mode : (s.pointers).mode = s.mode := rfl
@[simp] theorem pointers_mem : (s.pointers).mem = s.mem := rfl
@[simp] theorem pointers_faultMap : (s.pointers).faultMap = s.faultMap := rfl
@[simp] theorem pointers_cpuFault : (s.pointers).cpuFault = s.cpuFault := rfl
@[simp] theorem pointers_completion : (s.pointers).completion = s.completion := rfl
@[simp] theorem pointers_inp : (s.pointers).inp = s.inp := rfl
@[simp] theorem pointers_params : (s.pointers).params = s.params := rfl
@[simp] theorem pointers_draws : (s.pointers).draws = s.draws := rfl

/-! ## `pointersMem` -/

@[simp] theorem pointersMem_regs (m : MemOp) : (s.pointersMem m).regs = s.regs := rfl
@[simp] theorem pointersMem_tags (m : MemOp) : (s.pointersMem m).tags = s.tags := rfl
@[simp] theorem pointersMem_sw (m : MemOp) : (s.pointersMem m).sw = s.sw := rfl
@[simp] theorem pointersMem_cw (m : MemOp) : (s.pointersMem m).cw = s.cw := rfl
@[simp] theorem pointersMem_fip (m : MemOp) : (s.pointersMem m).fip = s.eip := rfl
@[simp] theorem pointersMem_fcs (m : MemOp) : (s.pointersMem m).fcs = s.segs.cs.selector := rfl
@[simp] theorem pointersMem_fop (m : MemOp) : (s.pointersMem m).fop = s.x87op.setWidth 11 := rfl
@[simp] theorem pointersMem_fdp (m : MemOp) : (s.pointersMem m).fdp = (s.ref m).off := rfl
@[simp] theorem pointersMem_fds (m : MemOp) : (s.pointersMem m).fds = (s.ref m).sel := rfl
@[simp] theorem pointersMem_x87op (m : MemOp) : (s.pointersMem m).x87op = s.x87op := rfl
@[simp] theorem pointersMem_cr0 (m : MemOp) : (s.pointersMem m).cr0 = s.cr0 := rfl
@[simp] theorem pointersMem_neReq (m : MemOp) : (s.pointersMem m).neReq = s.neReq := rfl
@[simp] theorem pointersMem_irq13 (m : MemOp) : (s.pointersMem m).irq13 = s.irq13 := rfl
@[simp] theorem pointersMem_cycles (m : MemOp) : (s.pointersMem m).cycles = s.cycles := rfl
@[simp] theorem pointersMem_gpr (m : MemOp) : (s.pointersMem m).gpr = s.gpr := rfl
@[simp] theorem pointersMem_eflags (m : MemOp) : (s.pointersMem m).eflags = s.eflags := rfl
@[simp] theorem pointersMem_eip (m : MemOp) : (s.pointersMem m).eip = s.eip := rfl
@[simp] theorem pointersMem_segs (m : MemOp) : (s.pointersMem m).segs = s.segs := rfl
@[simp] theorem pointersMem_code32 (m : MemOp) : (s.pointersMem m).code32 = s.code32 := rfl
@[simp] theorem pointersMem_mode (m : MemOp) : (s.pointersMem m).mode = s.mode := rfl
@[simp] theorem pointersMem_mem (m : MemOp) : (s.pointersMem m).mem = s.mem := rfl
@[simp] theorem pointersMem_faultMap (m : MemOp) : (s.pointersMem m).faultMap = s.faultMap := rfl
@[simp] theorem pointersMem_cpuFault (m : MemOp) : (s.pointersMem m).cpuFault = s.cpuFault := rfl
@[simp] theorem pointersMem_completion (m : MemOp) : (s.pointersMem m).completion = s.completion := rfl
@[simp] theorem pointersMem_inp (m : MemOp) : (s.pointersMem m).inp = s.inp := rfl
@[simp] theorem pointersMem_params (m : MemOp) : (s.pointersMem m).params = s.params := rfl
@[simp] theorem pointersMem_draws (m : MemOp) : (s.pointersMem m).draws = s.draws := rfl

/-! ## `raiseCpu` -/

@[simp] theorem raiseCpu_regs (v : CpuVector) : (s.raiseCpu v).regs = s.regs := rfl
@[simp] theorem raiseCpu_tags (v : CpuVector) : (s.raiseCpu v).tags = s.tags := rfl
@[simp] theorem raiseCpu_sw (v : CpuVector) : (s.raiseCpu v).sw = s.sw := rfl
@[simp] theorem raiseCpu_cw (v : CpuVector) : (s.raiseCpu v).cw = s.cw := rfl
@[simp] theorem raiseCpu_fip (v : CpuVector) : (s.raiseCpu v).fip = s.fip := rfl
@[simp] theorem raiseCpu_fcs (v : CpuVector) : (s.raiseCpu v).fcs = s.fcs := rfl
@[simp] theorem raiseCpu_fop (v : CpuVector) : (s.raiseCpu v).fop = s.fop := rfl
@[simp] theorem raiseCpu_fdp (v : CpuVector) : (s.raiseCpu v).fdp = s.fdp := rfl
@[simp] theorem raiseCpu_fds (v : CpuVector) : (s.raiseCpu v).fds = s.fds := rfl
@[simp] theorem raiseCpu_x87op (v : CpuVector) : (s.raiseCpu v).x87op = s.x87op := rfl
@[simp] theorem raiseCpu_cr0 (v : CpuVector) : (s.raiseCpu v).cr0 = s.cr0 := rfl
@[simp] theorem raiseCpu_neReq (v : CpuVector) : (s.raiseCpu v).neReq = s.neReq := rfl
@[simp] theorem raiseCpu_irq13 (v : CpuVector) : (s.raiseCpu v).irq13 = s.irq13 := rfl
@[simp] theorem raiseCpu_cycles (v : CpuVector) : (s.raiseCpu v).cycles = s.cycles := rfl
@[simp] theorem raiseCpu_gpr (v : CpuVector) : (s.raiseCpu v).gpr = s.gpr := rfl
@[simp] theorem raiseCpu_eflags (v : CpuVector) : (s.raiseCpu v).eflags = s.eflags := rfl
@[simp] theorem raiseCpu_eip (v : CpuVector) : (s.raiseCpu v).eip = s.eip := rfl
@[simp] theorem raiseCpu_segs (v : CpuVector) : (s.raiseCpu v).segs = s.segs := rfl
@[simp] theorem raiseCpu_code32 (v : CpuVector) : (s.raiseCpu v).code32 = s.code32 := rfl
@[simp] theorem raiseCpu_mode (v : CpuVector) : (s.raiseCpu v).mode = s.mode := rfl
@[simp] theorem raiseCpu_mem (v : CpuVector) : (s.raiseCpu v).mem = s.mem := rfl
@[simp] theorem raiseCpu_faultMap (v : CpuVector) : (s.raiseCpu v).faultMap = s.faultMap := rfl
@[simp] theorem raiseCpu_cpuFault (v : CpuVector) : (s.raiseCpu v).cpuFault = some ⟨v, s.segs.cs.selector, s.eip⟩ := rfl
@[simp] theorem raiseCpu_completion (v : CpuVector) : (s.raiseCpu v).completion = .abnormal := rfl
@[simp] theorem raiseCpu_inp (v : CpuVector) : (s.raiseCpu v).inp = s.inp := rfl
@[simp] theorem raiseCpu_params (v : CpuVector) : (s.raiseCpu v).params = s.params := rfl
@[simp] theorem raiseCpu_draws (v : CpuVector) : (s.raiseCpu v).draws = s.draws := rfl

/-! ## `normal` -/

@[simp] theorem normal_regs : (s.normal).regs = s.regs := rfl
@[simp] theorem normal_tags : (s.normal).tags = s.tags := rfl
@[simp] theorem normal_sw : (s.normal).sw = s.sw := rfl
@[simp] theorem normal_cw : (s.normal).cw = s.cw := rfl
@[simp] theorem normal_fip : (s.normal).fip = s.fip := rfl
@[simp] theorem normal_fcs : (s.normal).fcs = s.fcs := rfl
@[simp] theorem normal_fop : (s.normal).fop = s.fop := rfl
@[simp] theorem normal_fdp : (s.normal).fdp = s.fdp := rfl
@[simp] theorem normal_fds : (s.normal).fds = s.fds := rfl
@[simp] theorem normal_x87op : (s.normal).x87op = s.x87op := rfl
@[simp] theorem normal_cr0 : (s.normal).cr0 = s.cr0 := rfl
@[simp] theorem normal_neReq : (s.normal).neReq = s.neReq := rfl
@[simp] theorem normal_irq13 : (s.normal).irq13 = s.irq13 := rfl
@[simp] theorem normal_cycles : (s.normal).cycles = s.cycles := rfl
@[simp] theorem normal_gpr : (s.normal).gpr = s.gpr := rfl
@[simp] theorem normal_eflags : (s.normal).eflags = s.eflags := rfl
@[simp] theorem normal_eip : (s.normal).eip = s.eip := rfl
@[simp] theorem normal_segs : (s.normal).segs = s.segs := rfl
@[simp] theorem normal_code32 : (s.normal).code32 = s.code32 := rfl
@[simp] theorem normal_mode : (s.normal).mode = s.mode := rfl
@[simp] theorem normal_mem : (s.normal).mem = s.mem := rfl
@[simp] theorem normal_faultMap : (s.normal).faultMap = s.faultMap := rfl
@[simp] theorem normal_cpuFault : (s.normal).cpuFault = s.cpuFault := rfl
@[simp] theorem normal_completion : (s.normal).completion = .normal := rfl
@[simp] theorem normal_inp : (s.normal).inp = s.inp := rfl
@[simp] theorem normal_params : (s.normal).params = s.params := rfl
@[simp] theorem normal_draws : (s.normal).draws = s.draws := rfl

/-! ## `charge` -/

@[simp] theorem charge_regs (n : Nat) : (s.charge n).regs = s.regs := rfl
@[simp] theorem charge_tags (n : Nat) : (s.charge n).tags = s.tags := rfl
@[simp] theorem charge_sw (n : Nat) : (s.charge n).sw = s.sw := rfl
@[simp] theorem charge_cw (n : Nat) : (s.charge n).cw = s.cw := rfl
@[simp] theorem charge_fip (n : Nat) : (s.charge n).fip = s.fip := rfl
@[simp] theorem charge_fcs (n : Nat) : (s.charge n).fcs = s.fcs := rfl
@[simp] theorem charge_fop (n : Nat) : (s.charge n).fop = s.fop := rfl
@[simp] theorem charge_fdp (n : Nat) : (s.charge n).fdp = s.fdp := rfl
@[simp] theorem charge_fds (n : Nat) : (s.charge n).fds = s.fds := rfl
@[simp] theorem charge_x87op (n : Nat) : (s.charge n).x87op = s.x87op := rfl
@[simp] theorem charge_cr0 (n : Nat) : (s.charge n).cr0 = s.cr0 := rfl
@[simp] theorem charge_neReq (n : Nat) : (s.charge n).neReq = s.neReq := rfl
@[simp] theorem charge_irq13 (n : Nat) : (s.charge n).irq13 = s.irq13 := rfl
@[simp] theorem charge_cycles (n : Nat) : (s.charge n).cycles = s.cycles + n := rfl
@[simp] theorem charge_gpr (n : Nat) : (s.charge n).gpr = s.gpr := rfl
@[simp] theorem charge_eflags (n : Nat) : (s.charge n).eflags = s.eflags := rfl
@[simp] theorem charge_eip (n : Nat) : (s.charge n).eip = s.eip := rfl
@[simp] theorem charge_segs (n : Nat) : (s.charge n).segs = s.segs := rfl
@[simp] theorem charge_code32 (n : Nat) : (s.charge n).code32 = s.code32 := rfl
@[simp] theorem charge_mode (n : Nat) : (s.charge n).mode = s.mode := rfl
@[simp] theorem charge_mem (n : Nat) : (s.charge n).mem = s.mem := rfl
@[simp] theorem charge_faultMap (n : Nat) : (s.charge n).faultMap = s.faultMap := rfl
@[simp] theorem charge_cpuFault (n : Nat) : (s.charge n).cpuFault = s.cpuFault := rfl
@[simp] theorem charge_completion (n : Nat) : (s.charge n).completion = s.completion := rfl
@[simp] theorem charge_inp (n : Nat) : (s.charge n).inp = s.inp := rfl
@[simp] theorem charge_params (n : Nat) : (s.charge n).params = s.params := rfl
@[simp] theorem charge_draws (n : Nat) : (s.charge n).draws = s.draws := rfl

/-! ## `drawCodes` -/

@[simp] theorem drawCodes_regs : (s.drawCodes).regs = s.regs := rfl
@[simp] theorem drawCodes_tags : (s.drawCodes).tags = s.tags := rfl
@[simp] theorem drawCodes_sw : (s.drawCodes).sw = writeCodes s.sw (drawnAll s.drawn) := rfl
@[simp] theorem drawCodes_cw : (s.drawCodes).cw = s.cw := rfl
@[simp] theorem drawCodes_fip : (s.drawCodes).fip = s.fip := rfl
@[simp] theorem drawCodes_fcs : (s.drawCodes).fcs = s.fcs := rfl
@[simp] theorem drawCodes_fop : (s.drawCodes).fop = s.fop := rfl
@[simp] theorem drawCodes_fdp : (s.drawCodes).fdp = s.fdp := rfl
@[simp] theorem drawCodes_fds : (s.drawCodes).fds = s.fds := rfl
@[simp] theorem drawCodes_x87op : (s.drawCodes).x87op = s.x87op := rfl
@[simp] theorem drawCodes_cr0 : (s.drawCodes).cr0 = s.cr0 := rfl
@[simp] theorem drawCodes_neReq : (s.drawCodes).neReq = s.neReq := rfl
@[simp] theorem drawCodes_irq13 : (s.drawCodes).irq13 = s.irq13 := rfl
@[simp] theorem drawCodes_cycles : (s.drawCodes).cycles = s.cycles := rfl
@[simp] theorem drawCodes_gpr : (s.drawCodes).gpr = s.gpr := rfl
@[simp] theorem drawCodes_eflags : (s.drawCodes).eflags = s.eflags := rfl
@[simp] theorem drawCodes_eip : (s.drawCodes).eip = s.eip := rfl
@[simp] theorem drawCodes_segs : (s.drawCodes).segs = s.segs := rfl
@[simp] theorem drawCodes_code32 : (s.drawCodes).code32 = s.code32 := rfl
@[simp] theorem drawCodes_mode : (s.drawCodes).mode = s.mode := rfl
@[simp] theorem drawCodes_mem : (s.drawCodes).mem = s.mem := rfl
@[simp] theorem drawCodes_faultMap : (s.drawCodes).faultMap = s.faultMap := rfl
@[simp] theorem drawCodes_cpuFault : (s.drawCodes).cpuFault = s.cpuFault := rfl
@[simp] theorem drawCodes_completion : (s.drawCodes).completion = s.completion := rfl
@[simp] theorem drawCodes_inp : (s.drawCodes).inp = s.inp := rfl
@[simp] theorem drawCodes_params : (s.drawCodes).params = s.params := rfl
@[simp] theorem drawCodes_draws : (s.drawCodes).draws = s.draws + 1 := rfl

/-! ## `clearC1` -/

@[simp] theorem clearC1_regs : (s.clearC1).regs = s.regs := rfl
@[simp] theorem clearC1_tags : (s.clearC1).tags = s.tags := rfl
@[simp] theorem clearC1_sw : (s.clearC1).sw = writeCodes s.sw (s.codesUndef false) := rfl
@[simp] theorem clearC1_cw : (s.clearC1).cw = s.cw := rfl
@[simp] theorem clearC1_fip : (s.clearC1).fip = s.fip := rfl
@[simp] theorem clearC1_fcs : (s.clearC1).fcs = s.fcs := rfl
@[simp] theorem clearC1_fop : (s.clearC1).fop = s.fop := rfl
@[simp] theorem clearC1_fdp : (s.clearC1).fdp = s.fdp := rfl
@[simp] theorem clearC1_fds : (s.clearC1).fds = s.fds := rfl
@[simp] theorem clearC1_x87op : (s.clearC1).x87op = s.x87op := rfl
@[simp] theorem clearC1_cr0 : (s.clearC1).cr0 = s.cr0 := rfl
@[simp] theorem clearC1_neReq : (s.clearC1).neReq = s.neReq := rfl
@[simp] theorem clearC1_irq13 : (s.clearC1).irq13 = s.irq13 := rfl
@[simp] theorem clearC1_cycles : (s.clearC1).cycles = s.cycles := rfl
@[simp] theorem clearC1_gpr : (s.clearC1).gpr = s.gpr := rfl
@[simp] theorem clearC1_eflags : (s.clearC1).eflags = s.eflags := rfl
@[simp] theorem clearC1_eip : (s.clearC1).eip = s.eip := rfl
@[simp] theorem clearC1_segs : (s.clearC1).segs = s.segs := rfl
@[simp] theorem clearC1_code32 : (s.clearC1).code32 = s.code32 := rfl
@[simp] theorem clearC1_mode : (s.clearC1).mode = s.mode := rfl
@[simp] theorem clearC1_mem : (s.clearC1).mem = s.mem := rfl
@[simp] theorem clearC1_faultMap : (s.clearC1).faultMap = s.faultMap := rfl
@[simp] theorem clearC1_cpuFault : (s.clearC1).cpuFault = s.cpuFault := rfl
@[simp] theorem clearC1_completion : (s.clearC1).completion = s.completion := rfl
@[simp] theorem clearC1_inp : (s.clearC1).inp = s.inp := rfl
@[simp] theorem clearC1_params : (s.clearC1).params = s.params := rfl
@[simp] theorem clearC1_draws : (s.clearC1).draws = s.draws + 1 := rfl

/-! ## `trigOutOfRange` -/

@[simp] theorem trigOutOfRange_regs : (trigOutOfRange s).regs = s.regs := rfl
@[simp] theorem trigOutOfRange_tags : (trigOutOfRange s).tags = s.tags := rfl
@[simp] theorem trigOutOfRange_sw : (trigOutOfRange s).sw = writeCodes s.sw (s.trigCodes true false) := rfl
@[simp] theorem trigOutOfRange_cw : (trigOutOfRange s).cw = s.cw := rfl
@[simp] theorem trigOutOfRange_fip : (trigOutOfRange s).fip = s.fip := rfl
@[simp] theorem trigOutOfRange_fcs : (trigOutOfRange s).fcs = s.fcs := rfl
@[simp] theorem trigOutOfRange_fop : (trigOutOfRange s).fop = s.fop := rfl
@[simp] theorem trigOutOfRange_fdp : (trigOutOfRange s).fdp = s.fdp := rfl
@[simp] theorem trigOutOfRange_fds : (trigOutOfRange s).fds = s.fds := rfl
@[simp] theorem trigOutOfRange_x87op : (trigOutOfRange s).x87op = s.x87op := rfl
@[simp] theorem trigOutOfRange_cr0 : (trigOutOfRange s).cr0 = s.cr0 := rfl
@[simp] theorem trigOutOfRange_neReq : (trigOutOfRange s).neReq = s.neReq := rfl
@[simp] theorem trigOutOfRange_irq13 : (trigOutOfRange s).irq13 = s.irq13 := rfl
@[simp] theorem trigOutOfRange_cycles : (trigOutOfRange s).cycles = s.cycles := rfl
@[simp] theorem trigOutOfRange_gpr : (trigOutOfRange s).gpr = s.gpr := rfl
@[simp] theorem trigOutOfRange_eflags : (trigOutOfRange s).eflags = s.eflags := rfl
@[simp] theorem trigOutOfRange_eip : (trigOutOfRange s).eip = s.eip := rfl
@[simp] theorem trigOutOfRange_segs : (trigOutOfRange s).segs = s.segs := rfl
@[simp] theorem trigOutOfRange_code32 : (trigOutOfRange s).code32 = s.code32 := rfl
@[simp] theorem trigOutOfRange_mode : (trigOutOfRange s).mode = s.mode := rfl
@[simp] theorem trigOutOfRange_mem : (trigOutOfRange s).mem = s.mem := rfl
@[simp] theorem trigOutOfRange_faultMap : (trigOutOfRange s).faultMap = s.faultMap := rfl
@[simp] theorem trigOutOfRange_cpuFault : (trigOutOfRange s).cpuFault = s.cpuFault := rfl
@[simp] theorem trigOutOfRange_completion : (trigOutOfRange s).completion = s.completion := rfl
@[simp] theorem trigOutOfRange_inp : (trigOutOfRange s).inp = s.inp := rfl
@[simp] theorem trigOutOfRange_params : (trigOutOfRange s).params = s.params := rfl
@[simp] theorem trigOutOfRange_draws : (trigOutOfRange s).draws = s.draws + 1 := rfl

/-! ## `examineRule` -/

@[simp] theorem examineRule_regs : (examineRule s).regs = s.regs := rfl
@[simp] theorem examineRule_tags : (examineRule s).tags = s.tags := rfl
@[simp] theorem examineRule_cw : (examineRule s).cw = s.cw := rfl
@[simp] theorem examineRule_fip : (examineRule s).fip = s.fip := rfl
@[simp] theorem examineRule_fcs : (examineRule s).fcs = s.fcs := rfl
@[simp] theorem examineRule_fop : (examineRule s).fop = s.fop := rfl
@[simp] theorem examineRule_fdp : (examineRule s).fdp = s.fdp := rfl
@[simp] theorem examineRule_fds : (examineRule s).fds = s.fds := rfl
@[simp] theorem examineRule_x87op : (examineRule s).x87op = s.x87op := rfl
@[simp] theorem examineRule_cr0 : (examineRule s).cr0 = s.cr0 := rfl
@[simp] theorem examineRule_neReq : (examineRule s).neReq = s.neReq := rfl
@[simp] theorem examineRule_irq13 : (examineRule s).irq13 = s.irq13 := rfl
@[simp] theorem examineRule_cycles : (examineRule s).cycles = s.cycles := rfl
@[simp] theorem examineRule_gpr : (examineRule s).gpr = s.gpr := rfl
@[simp] theorem examineRule_eflags : (examineRule s).eflags = s.eflags := rfl
@[simp] theorem examineRule_eip : (examineRule s).eip = s.eip := rfl
@[simp] theorem examineRule_segs : (examineRule s).segs = s.segs := rfl
@[simp] theorem examineRule_code32 : (examineRule s).code32 = s.code32 := rfl
@[simp] theorem examineRule_mode : (examineRule s).mode = s.mode := rfl
@[simp] theorem examineRule_mem : (examineRule s).mem = s.mem := rfl
@[simp] theorem examineRule_faultMap : (examineRule s).faultMap = s.faultMap := rfl
@[simp] theorem examineRule_cpuFault : (examineRule s).cpuFault = s.cpuFault := rfl
@[simp] theorem examineRule_completion : (examineRule s).completion = s.completion := rfl
@[simp] theorem examineRule_inp : (examineRule s).inp = s.inp := rfl
@[simp] theorem examineRule_params : (examineRule s).params = s.params := rfl
@[simp] theorem examineRule_draws : (examineRule s).draws = s.draws := rfl

/-! ## `fninit` -/

@[simp] theorem fninit_regs : (s.fninit).regs = s.regs := rfl
@[simp] theorem fninit_tags : (s.fninit).tags = Vector.replicate 8 .empty := rfl
@[simp] theorem fninit_sw : (s.fninit).sw = 0x0000 := rfl
@[simp] theorem fninit_cw : (s.fninit).cw = 0x037F := rfl
@[simp] theorem fninit_fip : (s.fninit).fip = 0 := rfl
@[simp] theorem fninit_fcs : (s.fninit).fcs = 0 := rfl
@[simp] theorem fninit_fop : (s.fninit).fop = 0 := rfl
@[simp] theorem fninit_fdp : (s.fninit).fdp = 0 := rfl
@[simp] theorem fninit_fds : (s.fninit).fds = 0 := rfl
@[simp] theorem fninit_x87op : (s.fninit).x87op = s.x87op := rfl
@[simp] theorem fninit_cr0 : (s.fninit).cr0 = s.cr0 := rfl
@[simp] theorem fninit_neReq : (s.fninit).neReq = s.neReq := rfl
@[simp] theorem fninit_irq13 : (s.fninit).irq13 = s.irq13 := rfl
@[simp] theorem fninit_cycles : (s.fninit).cycles = s.cycles := rfl
@[simp] theorem fninit_gpr : (s.fninit).gpr = s.gpr := rfl
@[simp] theorem fninit_eflags : (s.fninit).eflags = s.eflags := rfl
@[simp] theorem fninit_eip : (s.fninit).eip = s.eip := rfl
@[simp] theorem fninit_segs : (s.fninit).segs = s.segs := rfl
@[simp] theorem fninit_code32 : (s.fninit).code32 = s.code32 := rfl
@[simp] theorem fninit_mode : (s.fninit).mode = s.mode := rfl
@[simp] theorem fninit_mem : (s.fninit).mem = s.mem := rfl
@[simp] theorem fninit_faultMap : (s.fninit).faultMap = s.faultMap := rfl
@[simp] theorem fninit_cpuFault : (s.fninit).cpuFault = s.cpuFault := rfl
@[simp] theorem fninit_completion : (s.fninit).completion = s.completion := rfl
@[simp] theorem fninit_inp : (s.fninit).inp = s.inp := rfl
@[simp] theorem fninit_params : (s.fninit).params = s.params := rfl
@[simp] theorem fninit_draws : (s.fninit).draws = s.draws := rfl

/-! ## `loadCw` -/

@[simp] theorem loadCw_regs (v : Word16) : (s.loadCw v).regs = s.regs := rfl
@[simp] theorem loadCw_tags (v : Word16) : (s.loadCw v).tags = s.tags := rfl
@[simp] theorem loadCw_sw (v : Word16) : (s.loadCw v).sw = recomputeES s.sw (cwStored v) := rfl
@[simp] theorem loadCw_cw (v : Word16) : (s.loadCw v).cw = cwStored v := rfl
@[simp] theorem loadCw_fip (v : Word16) : (s.loadCw v).fip = s.fip := rfl
@[simp] theorem loadCw_fcs (v : Word16) : (s.loadCw v).fcs = s.fcs := rfl
@[simp] theorem loadCw_fop (v : Word16) : (s.loadCw v).fop = s.fop := rfl
@[simp] theorem loadCw_fdp (v : Word16) : (s.loadCw v).fdp = s.fdp := rfl
@[simp] theorem loadCw_fds (v : Word16) : (s.loadCw v).fds = s.fds := rfl
@[simp] theorem loadCw_x87op (v : Word16) : (s.loadCw v).x87op = s.x87op := rfl
@[simp] theorem loadCw_cr0 (v : Word16) : (s.loadCw v).cr0 = s.cr0 := rfl
@[simp] theorem loadCw_neReq (v : Word16) : (s.loadCw v).neReq = s.neReq := rfl
@[simp] theorem loadCw_irq13 (v : Word16) : (s.loadCw v).irq13 = s.irq13 := rfl
@[simp] theorem loadCw_cycles (v : Word16) : (s.loadCw v).cycles = s.cycles := rfl
@[simp] theorem loadCw_gpr (v : Word16) : (s.loadCw v).gpr = s.gpr := rfl
@[simp] theorem loadCw_eflags (v : Word16) : (s.loadCw v).eflags = s.eflags := rfl
@[simp] theorem loadCw_eip (v : Word16) : (s.loadCw v).eip = s.eip := rfl
@[simp] theorem loadCw_segs (v : Word16) : (s.loadCw v).segs = s.segs := rfl
@[simp] theorem loadCw_code32 (v : Word16) : (s.loadCw v).code32 = s.code32 := rfl
@[simp] theorem loadCw_mode (v : Word16) : (s.loadCw v).mode = s.mode := rfl
@[simp] theorem loadCw_mem (v : Word16) : (s.loadCw v).mem = s.mem := rfl
@[simp] theorem loadCw_faultMap (v : Word16) : (s.loadCw v).faultMap = s.faultMap := rfl
@[simp] theorem loadCw_cpuFault (v : Word16) : (s.loadCw v).cpuFault = s.cpuFault := rfl
@[simp] theorem loadCw_completion (v : Word16) : (s.loadCw v).completion = s.completion := rfl
@[simp] theorem loadCw_inp (v : Word16) : (s.loadCw v).inp = s.inp := rfl
@[simp] theorem loadCw_params (v : Word16) : (s.loadCw v).params = s.params := rfl
@[simp] theorem loadCw_draws (v : Word16) : (s.loadCw v).draws = s.draws := rfl

/-! ## `installEnv` -/

@[simp] theorem installEnv_regs (x : Env) : (s.installEnv x).regs = s.regs := rfl
@[simp] theorem installEnv_tags (x : Env) : (s.installEnv x).tags = installTags x.tw s.regs := rfl
@[simp] theorem installEnv_sw (x : Env) : (s.installEnv x).sw = recomputeES x.sw (cwStored x.cw) := rfl
@[simp] theorem installEnv_cw (x : Env) : (s.installEnv x).cw = cwStored x.cw := rfl
@[simp] theorem installEnv_fip (x : Env) : (s.installEnv x).fip = x.fip := rfl
@[simp] theorem installEnv_fcs (x : Env) : (s.installEnv x).fcs = x.fcs := rfl
@[simp] theorem installEnv_fop (x : Env) : (s.installEnv x).fop = x.fop := rfl
@[simp] theorem installEnv_fdp (x : Env) : (s.installEnv x).fdp = x.fdp := rfl
@[simp] theorem installEnv_fds (x : Env) : (s.installEnv x).fds = x.fds := rfl
@[simp] theorem installEnv_x87op (x : Env) : (s.installEnv x).x87op = s.x87op := rfl
@[simp] theorem installEnv_cr0 (x : Env) : (s.installEnv x).cr0 = s.cr0 := rfl
@[simp] theorem installEnv_neReq (x : Env) : (s.installEnv x).neReq = s.neReq := rfl
@[simp] theorem installEnv_irq13 (x : Env) : (s.installEnv x).irq13 = s.irq13 := rfl
@[simp] theorem installEnv_cycles (x : Env) : (s.installEnv x).cycles = s.cycles := rfl
@[simp] theorem installEnv_gpr (x : Env) : (s.installEnv x).gpr = s.gpr := rfl
@[simp] theorem installEnv_eflags (x : Env) : (s.installEnv x).eflags = s.eflags := rfl
@[simp] theorem installEnv_eip (x : Env) : (s.installEnv x).eip = s.eip := rfl
@[simp] theorem installEnv_segs (x : Env) : (s.installEnv x).segs = s.segs := rfl
@[simp] theorem installEnv_code32 (x : Env) : (s.installEnv x).code32 = s.code32 := rfl
@[simp] theorem installEnv_mode (x : Env) : (s.installEnv x).mode = s.mode := rfl
@[simp] theorem installEnv_mem (x : Env) : (s.installEnv x).mem = s.mem := rfl
@[simp] theorem installEnv_faultMap (x : Env) : (s.installEnv x).faultMap = s.faultMap := rfl
@[simp] theorem installEnv_cpuFault (x : Env) : (s.installEnv x).cpuFault = s.cpuFault := rfl
@[simp] theorem installEnv_completion (x : Env) : (s.installEnv x).completion = s.completion := rfl
@[simp] theorem installEnv_inp (x : Env) : (s.installEnv x).inp = s.inp := rfl
@[simp] theorem installEnv_params (x : Env) : (s.installEnv x).params = s.params := rfl
@[simp] theorem installEnv_draws (x : Env) : (s.installEnv x).draws = s.draws := rfl

/-! ## `latch` -/

@[simp] theorem latch_regs (inp : Inputs) (op : Option Word16) : (s.latch inp op).regs = s.regs := rfl
@[simp] theorem latch_tags (inp : Inputs) (op : Option Word16) : (s.latch inp op).tags = s.tags := rfl
@[simp] theorem latch_sw (inp : Inputs) (op : Option Word16) : (s.latch inp op).sw = s.sw := rfl
@[simp] theorem latch_cw (inp : Inputs) (op : Option Word16) : (s.latch inp op).cw = s.cw := rfl
@[simp] theorem latch_fip (inp : Inputs) (op : Option Word16) : (s.latch inp op).fip = s.fip := rfl
@[simp] theorem latch_fcs (inp : Inputs) (op : Option Word16) : (s.latch inp op).fcs = s.fcs := rfl
@[simp] theorem latch_fop (inp : Inputs) (op : Option Word16) : (s.latch inp op).fop = s.fop := rfl
@[simp] theorem latch_fdp (inp : Inputs) (op : Option Word16) : (s.latch inp op).fdp = s.fdp := rfl
@[simp] theorem latch_fds (inp : Inputs) (op : Option Word16) : (s.latch inp op).fds = s.fds := rfl
@[simp] theorem latch_x87op (inp : Inputs) (op : Option Word16) : (s.latch inp op).x87op = op.getD s.x87op := rfl
@[simp] theorem latch_cr0 (inp : Inputs) (op : Option Word16) : (s.latch inp op).cr0 = s.cr0 := rfl
@[simp] theorem latch_neReq (inp : Inputs) (op : Option Word16) : (s.latch inp op).neReq = s.neReq := rfl
@[simp] theorem latch_irq13 (inp : Inputs) (op : Option Word16) : (s.latch inp op).irq13 = s.irq13 := rfl
@[simp] theorem latch_cycles (inp : Inputs) (op : Option Word16) : (s.latch inp op).cycles = s.cycles := rfl
@[simp] theorem latch_gpr (inp : Inputs) (op : Option Word16) : (s.latch inp op).gpr = s.gpr := rfl
@[simp] theorem latch_eflags (inp : Inputs) (op : Option Word16) : (s.latch inp op).eflags = s.eflags := rfl
@[simp] theorem latch_eip (inp : Inputs) (op : Option Word16) : (s.latch inp op).eip = s.eip := rfl
@[simp] theorem latch_segs (inp : Inputs) (op : Option Word16) : (s.latch inp op).segs = s.segs := rfl
@[simp] theorem latch_code32 (inp : Inputs) (op : Option Word16) : (s.latch inp op).code32 = s.code32 := rfl
@[simp] theorem latch_mode (inp : Inputs) (op : Option Word16) : (s.latch inp op).mode = s.mode := rfl
@[simp] theorem latch_mem (inp : Inputs) (op : Option Word16) : (s.latch inp op).mem = s.mem := rfl
@[simp] theorem latch_faultMap (inp : Inputs) (op : Option Word16) : (s.latch inp op).faultMap = s.faultMap := rfl
@[simp] theorem latch_cpuFault (inp : Inputs) (op : Option Word16) : (s.latch inp op).cpuFault = s.cpuFault := rfl
@[simp] theorem latch_completion (inp : Inputs) (op : Option Word16) : (s.latch inp op).completion = s.completion := rfl
@[simp] theorem latch_inp (inp : Inputs) (op : Option Word16) : (s.latch inp op).inp = inp := rfl
@[simp] theorem latch_params (inp : Inputs) (op : Option Word16) : (s.latch inp op).params = s.params := rfl
@[simp] theorem latch_draws (inp : Inputs) (op : Option Word16) : (s.latch inp op).draws = s.draws := rfl

/-! ## `deliverMF` -/

@[simp] theorem deliverMF_regs : (s.deliverMF).regs = s.regs := rfl
@[simp] theorem deliverMF_tags : (s.deliverMF).tags = s.tags := rfl
@[simp] theorem deliverMF_sw : (s.deliverMF).sw = s.sw := rfl
@[simp] theorem deliverMF_cw : (s.deliverMF).cw = s.cw := rfl
@[simp] theorem deliverMF_fip : (s.deliverMF).fip = s.fip := rfl
@[simp] theorem deliverMF_fcs : (s.deliverMF).fcs = s.fcs := rfl
@[simp] theorem deliverMF_fop : (s.deliverMF).fop = s.fop := rfl
@[simp] theorem deliverMF_fdp : (s.deliverMF).fdp = s.fdp := rfl
@[simp] theorem deliverMF_fds : (s.deliverMF).fds = s.fds := rfl
@[simp] theorem deliverMF_x87op : (s.deliverMF).x87op = s.x87op := rfl
@[simp] theorem deliverMF_cr0 : (s.deliverMF).cr0 = s.cr0 := rfl
@[simp] theorem deliverMF_neReq : (s.deliverMF).neReq = false := rfl
@[simp] theorem deliverMF_irq13 : (s.deliverMF).irq13 = s.irq13 := rfl
@[simp] theorem deliverMF_cycles : (s.deliverMF).cycles = s.cycles := rfl
@[simp] theorem deliverMF_gpr : (s.deliverMF).gpr = s.gpr := rfl
@[simp] theorem deliverMF_eflags : (s.deliverMF).eflags = s.eflags := rfl
@[simp] theorem deliverMF_eip : (s.deliverMF).eip = s.eip := rfl
@[simp] theorem deliverMF_segs : (s.deliverMF).segs = s.segs := rfl
@[simp] theorem deliverMF_code32 : (s.deliverMF).code32 = s.code32 := rfl
@[simp] theorem deliverMF_mode : (s.deliverMF).mode = s.mode := rfl
@[simp] theorem deliverMF_mem : (s.deliverMF).mem = s.mem := rfl
@[simp] theorem deliverMF_faultMap : (s.deliverMF).faultMap = s.faultMap := rfl
@[simp] theorem deliverMF_cpuFault : (s.deliverMF).cpuFault = some ⟨.floatingPoint, s.segs.cs.selector, s.eip⟩ := rfl
@[simp] theorem deliverMF_completion : (s.deliverMF).completion = .abnormal := rfl
@[simp] theorem deliverMF_inp : (s.deliverMF).inp = s.inp := rfl
@[simp] theorem deliverMF_params : (s.deliverMF).params = s.params := rfl
@[simp] theorem deliverMF_draws : (s.deliverMF).draws = s.draws := rfl

/-! ## `report` -/

@[simp] theorem report_regs : s.report.regs = s.regs := by unfold State.report; split <;> rfl
@[simp] theorem report_tags : s.report.tags = s.tags := by unfold State.report; split <;> rfl
@[simp] theorem report_sw : s.report.sw = s.sw := by unfold State.report; split <;> rfl
@[simp] theorem report_cw : s.report.cw = s.cw := by unfold State.report; split <;> rfl
@[simp] theorem report_fip : s.report.fip = s.fip := by unfold State.report; split <;> rfl
@[simp] theorem report_fcs : s.report.fcs = s.fcs := by unfold State.report; split <;> rfl
@[simp] theorem report_fop : s.report.fop = s.fop := by unfold State.report; split <;> rfl
@[simp] theorem report_fdp : s.report.fdp = s.fdp := by unfold State.report; split <;> rfl
@[simp] theorem report_fds : s.report.fds = s.fds := by unfold State.report; split <;> rfl
@[simp] theorem report_x87op : s.report.x87op = s.x87op := by unfold State.report; split <;> rfl
@[simp] theorem report_cr0 : s.report.cr0 = s.cr0 := by unfold State.report; split <;> rfl
@[simp] theorem report_cycles : s.report.cycles = s.cycles := by unfold State.report; split <;> rfl
@[simp] theorem report_gpr : s.report.gpr = s.gpr := by unfold State.report; split <;> rfl
@[simp] theorem report_eflags : s.report.eflags = s.eflags := by unfold State.report; split <;> rfl
@[simp] theorem report_eip : s.report.eip = s.eip := by unfold State.report; split <;> rfl
@[simp] theorem report_segs : s.report.segs = s.segs := by unfold State.report; split <;> rfl
@[simp] theorem report_code32 : s.report.code32 = s.code32 := by unfold State.report; split <;> rfl
@[simp] theorem report_mode : s.report.mode = s.mode := by unfold State.report; split <;> rfl
@[simp] theorem report_mem : s.report.mem = s.mem := by unfold State.report; split <;> rfl
@[simp] theorem report_faultMap : s.report.faultMap = s.faultMap := by unfold State.report; split <;> rfl
@[simp] theorem report_cpuFault : s.report.cpuFault = s.cpuFault := by unfold State.report; split <;> rfl
@[simp] theorem report_inp : s.report.inp = s.inp := by unfold State.report; split <;> rfl
@[simp] theorem report_params : s.report.params = s.params := by unfold State.report; split <;> rfl
@[simp] theorem report_draws : s.report.draws = s.draws := by unfold State.report; split <;> rfl
@[simp] theorem report_completion : s.report.completion = .abnormal := by unfold State.report; split <;> rfl
theorem report_neReq : s.report.neReq = (decide (s.cr0 &&& 0x20 ≠ 0) || s.neReq) := by
  unfold State.report; split <;> simp_all
theorem report_irq13 : s.report.irq13 = if s.cr0 &&& 0x20 ≠ 0 then s.irq13 else s.irq13 + 1 := by
  unfold State.report; split <;> rfl

/-! ## `resume` -/

@[simp] theorem resume_regs (before len : Nat) : (s.resume before len).regs = s.regs := by
  unfold State.resume; split <;> rfl
@[simp] theorem resume_tags (before len : Nat) : (s.resume before len).tags = s.tags := by
  unfold State.resume; split <;> rfl
@[simp] theorem resume_sw (before len : Nat) : (s.resume before len).sw = s.sw := by
  unfold State.resume; split <;> rfl
@[simp] theorem resume_cw (before len : Nat) : (s.resume before len).cw = s.cw := by
  unfold State.resume; split <;> rfl
@[simp] theorem resume_fip (before len : Nat) : (s.resume before len).fip = s.fip := by
  unfold State.resume; split <;> rfl
@[simp] theorem resume_fcs (before len : Nat) : (s.resume before len).fcs = s.fcs := by
  unfold State.resume; split <;> rfl
@[simp] theorem resume_fop (before len : Nat) : (s.resume before len).fop = s.fop := by
  unfold State.resume; split <;> rfl
@[simp] theorem resume_fdp (before len : Nat) : (s.resume before len).fdp = s.fdp := by
  unfold State.resume; split <;> rfl
@[simp] theorem resume_fds (before len : Nat) : (s.resume before len).fds = s.fds := by
  unfold State.resume; split <;> rfl
@[simp] theorem resume_x87op (before len : Nat) : (s.resume before len).x87op = s.x87op := by
  unfold State.resume; split <;> rfl
@[simp] theorem resume_cr0 (before len : Nat) : (s.resume before len).cr0 = s.cr0 := by
  unfold State.resume; split <;> rfl
@[simp] theorem resume_neReq (before len : Nat) : (s.resume before len).neReq = s.neReq := by
  unfold State.resume; split <;> rfl
@[simp] theorem resume_irq13 (before len : Nat) : (s.resume before len).irq13 = s.irq13 := by
  unfold State.resume; split <;> rfl
@[simp] theorem resume_cycles (before len : Nat) : (s.resume before len).cycles = s.cycles := by
  unfold State.resume; split <;> rfl
@[simp] theorem resume_gpr (before len : Nat) : (s.resume before len).gpr = s.gpr := by
  unfold State.resume; split <;> rfl
@[simp] theorem resume_eflags (before len : Nat) : (s.resume before len).eflags = s.eflags := by
  unfold State.resume; split <;> rfl
@[simp] theorem resume_segs (before len : Nat) : (s.resume before len).segs = s.segs := by
  unfold State.resume; split <;> rfl
@[simp] theorem resume_code32 (before len : Nat) : (s.resume before len).code32 = s.code32 := by
  unfold State.resume; split <;> rfl
@[simp] theorem resume_mode (before len : Nat) : (s.resume before len).mode = s.mode := by
  unfold State.resume; split <;> rfl
@[simp] theorem resume_mem (before len : Nat) : (s.resume before len).mem = s.mem := by
  unfold State.resume; split <;> rfl
@[simp] theorem resume_faultMap (before len : Nat) : (s.resume before len).faultMap = s.faultMap := by
  unfold State.resume; split <;> rfl
@[simp] theorem resume_cpuFault (before len : Nat) : (s.resume before len).cpuFault = s.cpuFault := by
  unfold State.resume; split <;> rfl
@[simp] theorem resume_completion (before len : Nat) : (s.resume before len).completion = s.completion := by
  unfold State.resume; split <;> rfl
@[simp] theorem resume_inp (before len : Nat) : (s.resume before len).inp = s.inp := by
  unfold State.resume; split <;> rfl
@[simp] theorem resume_params (before len : Nat) : (s.resume before len).params = s.params := by
  unfold State.resume; split <;> rfl
@[simp] theorem resume_draws (before len : Nat) : (s.resume before len).draws = s.draws := by
  unfold State.resume; split <;> rfl

/-! ## `hardwareReset` -/

variable (rs : ResetState) (regs : Vector F80 8) (op : BitVec 11)

@[simp] theorem hardwareReset_regs : (s.hardwareReset rs regs op).regs = (State.resetOf rs regs op).regs := rfl
@[simp] theorem hardwareReset_tags : (s.hardwareReset rs regs op).tags = (State.resetOf rs regs op).tags := rfl
@[simp] theorem hardwareReset_sw : (s.hardwareReset rs regs op).sw = (State.resetOf rs regs op).sw := rfl
@[simp] theorem hardwareReset_cw : (s.hardwareReset rs regs op).cw = (State.resetOf rs regs op).cw := rfl
@[simp] theorem hardwareReset_fip : (s.hardwareReset rs regs op).fip = (State.resetOf rs regs op).fip := rfl
@[simp] theorem hardwareReset_fcs : (s.hardwareReset rs regs op).fcs = (State.resetOf rs regs op).fcs := rfl
@[simp] theorem hardwareReset_fop : (s.hardwareReset rs regs op).fop = (State.resetOf rs regs op).fop := rfl
@[simp] theorem hardwareReset_fdp : (s.hardwareReset rs regs op).fdp = (State.resetOf rs regs op).fdp := rfl
@[simp] theorem hardwareReset_fds : (s.hardwareReset rs regs op).fds = (State.resetOf rs regs op).fds := rfl
@[simp] theorem hardwareReset_x87op : (s.hardwareReset rs regs op).x87op = (State.resetOf rs regs op).x87op := rfl
@[simp] theorem hardwareReset_cr0 : (s.hardwareReset rs regs op).cr0 = (State.resetOf rs regs op).cr0 := rfl
@[simp] theorem hardwareReset_neReq : (s.hardwareReset rs regs op).neReq = (State.resetOf rs regs op).neReq := rfl
@[simp] theorem hardwareReset_gpr : (s.hardwareReset rs regs op).gpr = (State.resetOf rs regs op).gpr := rfl
@[simp] theorem hardwareReset_eflags : (s.hardwareReset rs regs op).eflags = (State.resetOf rs regs op).eflags := rfl
@[simp] theorem hardwareReset_eip : (s.hardwareReset rs regs op).eip = (State.resetOf rs regs op).eip := rfl
@[simp] theorem hardwareReset_segs : (s.hardwareReset rs regs op).segs = (State.resetOf rs regs op).segs := rfl
@[simp] theorem hardwareReset_code32 : (s.hardwareReset rs regs op).code32 = (State.resetOf rs regs op).code32 := rfl
@[simp] theorem hardwareReset_mode : (s.hardwareReset rs regs op).mode = (State.resetOf rs regs op).mode := rfl
@[simp] theorem hardwareReset_cpuFault : (s.hardwareReset rs regs op).cpuFault = (State.resetOf rs regs op).cpuFault := rfl
@[simp] theorem hardwareReset_completion : (s.hardwareReset rs regs op).completion = (State.resetOf rs regs op).completion := rfl
@[simp] theorem hardwareReset_inp : (s.hardwareReset rs regs op).inp = (State.resetOf rs regs op).inp := rfl
@[simp] theorem hardwareReset_irq13 : (s.hardwareReset rs regs op).irq13 = s.irq13 := rfl
@[simp] theorem hardwareReset_cycles : (s.hardwareReset rs regs op).cycles = s.cycles := rfl
@[simp] theorem hardwareReset_mem : (s.hardwareReset rs regs op).mem = s.mem := rfl
@[simp] theorem hardwareReset_faultMap : (s.hardwareReset rs regs op).faultMap = s.faultMap := rfl
@[simp] theorem hardwareReset_params : (s.hardwareReset rs regs op).params = s.params := rfl
@[simp] theorem hardwareReset_draws : (s.hardwareReset rs regs op).draws = s.draws := rfl

end Sys2Proof.Machine
end

