-- ==== Sys2Proof/Laws/Memory.lean ====
section
/-! SUPPORT. Memory: every write keeps the canonical form, a read after a write gives what was written, and a write leaves
every other byte alone. -/

namespace Sys2Proof.Machine

/-! ## The canonical form -/

@[simp] theorem wfFrom_nil (low : Nat) : Memory.wfFrom low [] = true := rfl

theorem wfFrom_cons (low a : Nat) (b : Byte) (mem : List Host.Cell) :
    Memory.wfFrom low ((a, b) :: mem) = true ↔
      low ≤ a ∧ a < 2 ^ 32 ∧ b ≠ unlistedByte ∧ Memory.wfFrom (a + 1) mem = true := by
  simp only [Memory.wfFrom, Bool.and_eq_true, decide_eq_true_eq, bne_iff_ne, and_assoc]

theorem wfFrom_mono {low low' : Nat} (h : low' ≤ low) :
    ∀ {mem : List Host.Cell}, Memory.wfFrom low mem = true → Memory.wfFrom low' mem = true
  | [], _ => rfl
  | (a, b) :: mem, hw => by
    rw [wfFrom_cons] at hw ⊢
    exact ⟨h.trans hw.1, hw.2⟩

theorem writeByte_wfFrom {k : Nat} (v : Byte) (hk : k < 2 ^ 32) :
    ∀ {mem : List Host.Cell} {low : Nat}, low ≤ k → Memory.wfFrom low mem = true →
      Memory.wfFrom low (writeByte mem k v) = true
  | [], low, hl, _ => by
    unfold writeByte
    split
    · rfl
    · rw [wfFrom_cons]; exact ⟨hl, hk, ‹_›, rfl⟩
  | (a, b) :: mem, low, hl, hw => by
    rw [wfFrom_cons] at hw
    obtain ⟨h1, h2, h3, h4⟩ := hw
    unfold writeByte
    split
    · subst k
      split
      · exact wfFrom_mono (by omega) h4
      · rw [wfFrom_cons]; exact ⟨h1, h2, ‹_›, h4⟩
    · split
      · split
        · rw [wfFrom_cons]; exact ⟨h1, h2, h3, h4⟩
        · rw [wfFrom_cons, wfFrom_cons]; exact ⟨hl, hk, ‹_›, by omega, h2, h3, h4⟩
      · rw [wfFrom_cons]
        exact ⟨h1, h2, h3, writeByte_wfFrom v hk (by omega) h4⟩

theorem writeByte_wf {mem : List Host.Cell} {k : Nat} (v : Byte) (hk : k < 2 ^ 32) (hw : Memory.wf mem = true) :
    Memory.wf (writeByte mem k v) = true :=
  writeByte_wfFrom v hk (Nat.zero_le k) hw

theorem writeLE_wf : ∀ (n : Nat) {mem : List Host.Cell} (a : Word32) (v : Nat), Memory.wf mem = true →
    Memory.wf (writeLE mem a n v) = true
  | 0, _, _, _, hw => hw
  | n + 1, _, a, v, hw => writeLE_wf n (a + 1) (v / 256) (writeByte_wf _ a.isLt hw)

theorem writeFields_wf (map : List FaultRegion) (a : Word32) : ∀ (fs : List Field) {mem : List Host.Cell},
    Memory.wf mem = true → Memory.wf (writeFields map mem a fs).1 = true
  | [], _, hw => hw
  | f :: fs, mem, hw => by
    unfold writeFields
    split
    · exact hw
    · exact writeFields_wf map a fs (writeLE_wf _ _ _ hw)

theorem placeFrom_wf : ∀ (bs : List Byte) (k : Nat) {s : State}, Memory.wf s.mem = true →
    Memory.wf (s.placeFrom k bs).mem = true
  | [], _, _, hw => hw
  | _ :: bs, k, s, hw => placeFrom_wf bs (k + 1) (s := { s with mem := _ }) (writeByte_wf _ (BitVec.isLt _) hw)

theorem reset_mem_wf : Memory.wf State.reset.mem = true := rfl

/-! ## Reading what was written -/

theorem readByte_below {mem : List Host.Cell} {low k : Nat} (hw : Memory.wfFrom low mem = true) (hk : k < low) :
    readByte mem k = unlistedByte := by
  cases mem with
  | nil => rfl
  | cons c mem =>
    obtain ⟨a, b⟩ := c
    rw [wfFrom_cons] at hw
    unfold readByte
    rw [if_neg (by omega), if_pos (by omega)]

theorem readByte_writeByte_same_from {k : Nat} (v : Byte) :
    ∀ {mem : List Host.Cell} {low : Nat}, Memory.wfFrom low mem = true → readByte (writeByte mem k v) k = v
  | [], low, _ => by
    unfold writeByte
    split
    · subst v; rfl
    · simp [readByte]
  | (a, b) :: mem, low, hw => by
    rw [wfFrom_cons] at hw
    unfold writeByte
    split
    · subst k
      split
      · subst v; exact readByte_below hw.2.2.2 (by omega)
      · simp [readByte]
    · split
      · split
        · subst v; unfold readByte; rw [if_neg ‹_›, if_pos ‹_›]
        · simp [readByte]
      · unfold readByte
        rw [if_neg ‹_›, if_neg ‹_›]
        exact readByte_writeByte_same_from v hw.2.2.2

theorem readByte_writeByte_other_from {k j : Nat} (v : Byte) (hkj : j ≠ k) :
    ∀ {mem : List Host.Cell} {low : Nat}, Memory.wfFrom low mem = true → readByte (writeByte mem k v) j = readByte mem j
  | [], low, _ => by
    unfold writeByte
    split
    · rfl
    · simp [readByte, hkj]
  | (a, b) :: mem, low, hw => by
    rw [wfFrom_cons] at hw
    unfold writeByte
    split
    · subst k
      split
      · rw [show readByte ((a, b) :: mem) j = if j = a then b else if j < a then unlistedByte else readByte mem j from rfl,
          if_neg hkj]
        split
        · exact readByte_below hw.2.2.2 (by omega)
        · rfl
      · simp [readByte, hkj]
    · split
      · split
        · rfl
        · rw [show readByte ((k, v) :: (a, b) :: mem) j =
            if j = k then v else if j < k then unlistedByte else readByte ((a, b) :: mem) j from rfl, if_neg hkj]
          split
          · unfold readByte; rw [if_neg (by omega), if_pos (by omega)]
          · rfl
      · unfold readByte
        rw [readByte_writeByte_other_from v hkj hw.2.2.2]

theorem readByte_writeByte_same {mem : List Host.Cell} (k : Nat) (v : Byte) (hw : Memory.wf mem = true) :
    readByte (writeByte mem k v) k = v :=
  readByte_writeByte_same_from v hw

theorem readByte_writeByte_other {mem : List Host.Cell} {k j : Nat} (v : Byte) (hkj : j ≠ k) (hw : Memory.wf mem = true) :
    readByte (writeByte mem k v) j = readByte mem j :=
  readByte_writeByte_other_from v hkj hw

/-! ## Ranges -/

theorem add_one_add (a : Word32) (i : Nat) : a + 1 + BitVec.ofNat 32 i = a + BitVec.ofNat 32 (i + 1) := by
  rw [BitVec.add_assoc, BitVec.ofNat_add, BitVec.add_comm (BitVec.ofNat 32 i)]
  rfl

theorem toNat_add_ne {a : Word32} {i j : Nat} (hi : i < 2 ^ 32) (hj : j < 2 ^ 32) (h : i ≠ j) :
    (a + BitVec.ofNat 32 i).toNat ≠ (a + BitVec.ofNat 32 j).toNat := by
  intro heq
  have := a.isLt
  simp only [BitVec.toNat_add, BitVec.toNat_ofNat] at heq
  omega

/-- A write of `n` bytes leaves every byte alone that is none of them. -/
theorem readByte_writeLE_other : ∀ (n : Nat) {mem : List Host.Cell} (a : Word32) (v : Nat) (j : Nat),
    (∀ i, i < n → j ≠ (a + BitVec.ofNat 32 i).toNat) → Memory.wf mem = true →
      readByte (writeLE mem a n v) j = readByte mem j
  | 0, _, _, _, _, _, _ => rfl
  | n + 1, mem, a, v, j, h, hw => by
    have h0 : j ≠ a.toNat := by simpa using h 0 (by omega)
    unfold writeLE
    rw [readByte_writeLE_other n (a + 1) (v / 256) j ?_ (writeByte_wf _ a.isLt hw), readByte_writeByte_other _ h0 hw]
    intro i hi
    have := h (i + 1) (by omega)
    rwa [add_one_add]

theorem readLE_congr : ∀ (n : Nat) {mem mem' : List Host.Cell} (a : Word32),
    (∀ i, i < n → readByte mem (a + BitVec.ofNat 32 i).toNat = readByte mem' (a + BitVec.ofNat 32 i).toNat) →
      readLE mem a n = readLE mem' a n
  | 0, _, _, _, _ => rfl
  | n + 1, mem, mem', a, h => by
    have h0 := h 0 (by omega)
    simp only [BitVec.add_zero] at h0
    unfold readLE
    rw [h0, readLE_congr n (a + 1)]
    intro i hi
    have := h (i + 1) (by omega)
    rwa [add_one_add]

/-- A read of the `n` bytes a write of `n` bytes wrote gives the low `n` bytes of the value. -/
theorem readLE_writeLE_same : ∀ (n : Nat) {mem : List Host.Cell} (a : Word32) (v : Nat), n ≤ 2 ^ 32 →
    Memory.wf mem = true → readLE (writeLE mem a n v) a n = v % 256 ^ n
  | 0, _, _, v, _, _ => by simp [readLE, Nat.mod_one]
  | n + 1, mem, a, v, hn, hw => by
    unfold writeLE readLE
    rw [readLE_writeLE_same n (a + 1) (v / 256) (by omega) (writeByte_wf _ a.isLt hw),
      readByte_writeLE_other n (a + 1) (v / 256) a.toNat ?_ (writeByte_wf _ a.isLt hw), readByte_writeByte_same _ _ hw]
    · rw [BitVec.toNat_ofNat, show (2 : Nat) ^ 8 = 256 from rfl, Nat.pow_succ', Nat.mod_mul]
    · intro i hi heq
      have h := toNat_add_ne (a := a) (i := 0) (j := i + 1) (by omega) (by omega) (by omega)
      apply h
      rw [BitVec.add_zero, heq, add_one_add]

theorem readLE_lt : ∀ (n : Nat) (mem : List Host.Cell) (a : Word32), readLE mem a n < 256 ^ n
  | 0, _, _ => by simp [readLE]
  | n + 1, mem, a => by
    have h1 := readLE_lt n mem (a + 1)
    have h2 := (readByte mem a.toNat).isLt
    unfold readLE
    rw [Nat.pow_succ']
    omega

/-! ## The primitives of the CPU -/

theorem memRead_ok {s : State} {a : Word32} {n v : Nat} (h : s.memRead a n = .ok v) :
    accessFault s.faultMap false a n = none ∧ v = readLE s.mem a n := by
  unfold State.memRead at h
  split at h
  · cases h
  · exact ⟨‹_›, (Except.ok.inj h).symm⟩

theorem memRead_of_accessible {s : State} {a : Word32} {n : Nat} (h : accessFault s.faultMap false a n = none) :
    s.memRead a n = .ok (readLE s.mem a n) := by
  unfold State.memRead; rw [h]

theorem memWrite_of_accessible {s : State} {a : Word32} {n v : Nat} (h : accessFault s.faultMap true a n = none) :
    s.memWrite a n v = .ok (writeLE s.mem a n v) := by
  unfold State.memWrite; rw [h]

theorem memWrite_ok {s : State} {a : Word32} {n v : Nat} {mem : List Host.Cell} (h : s.memWrite a n v = .ok mem) :
    accessFault s.faultMap true a n = none ∧ mem = writeLE s.mem a n v := by
  unfold State.memWrite at h
  split at h
  · cases h
  · exact ⟨‹_›, (Except.ok.inj h).symm⟩

end Sys2Proof.Machine
end

