-- ==== Sys2Proof/Laws/Status.lean ====
section
/-! SUPPORT. The bits of the status word after each of its updates. -/

namespace Sys2Proof.Machine

/-! ## Single bits -/

theorem getLsbD_setBit {n : Nat} (w : BitVec n) {k : Nat} (hk : k < n) (b : Bool) (j : Nat) :
    (setBit w k b).getLsbD j = if j = k then b else w.getLsbD j := by
  unfold setBit
  cases b
  · by_cases h : j = k
    · subst h; simp [hk]
    · by_cases hj : j < n
      · simp [hj, h]
      · simp [h, BitVec.getLsbD_of_ge _ _ (Nat.le_of_not_lt hj)]
  · by_cases h : j = k
    · subst h; simp [hk]
    · simp [BitVec.getLsbD_twoPow, Ne.symm h, h]

theorem getLsbD_writeBit {n : Nat} (w : BitVec n) {k : Nat} (hk : k < n) (o : Option Bool) (j : Nat) :
    (writeBit w k o).getLsbD j = if j = k then o.getD (w.getLsbD k) else w.getLsbD j := by
  cases o with
  | none => simp only [writeBit, Option.getD_none]; split <;> simp_all
  | some b => simp only [writeBit, Option.getD_some, getLsbD_setBit w hk]

theorem getLsbD_writeCodes (sw : Word16) (c : Codes) (j : Nat) :
    (writeCodes sw c).getLsbD j =
      if j = 14 then c.c3.getD (sw.getLsbD 14)
      else if j = 10 then c.c2.getD (sw.getLsbD 10)
      else if j = 9 then c.c1.getD (sw.getLsbD 9)
      else if j = 8 then c.c0.getD (sw.getLsbD 8)
      else sw.getLsbD j := by
  unfold writeCodes
  simp only [getLsbD_writeBit _ (show 14 < 16 by decide), getLsbD_writeBit _ (show 10 < 16 by decide),
    getLsbD_writeBit _ (show 9 < 16 by decide), getLsbD_writeBit _ (show 8 < 16 by decide)]
  norm_num

theorem getLsbD_setES (sw : Word16) (b : Bool) (j : Nat) :
    (setES sw b).getLsbD j = if j = 15 ∨ j = 7 then b else sw.getLsbD j := by
  unfold setES
  rw [getLsbD_setBit _ (by decide), getLsbD_setBit _ (by decide)]
  split_ifs <;> simp_all

/-! ## TOP -/

theorem getLsbD_setTop (sw : Word16) (t : BitVec 3) {j : Nat} (h : j < 11 ∨ 13 < j) :
    (setTop sw t).getLsbD j = sw.getLsbD j := by
  by_cases hj : j < 16
  · have : j = 0 ∨ j = 1 ∨ j = 2 ∨ j = 3 ∨ j = 4 ∨ j = 5 ∨ j = 6 ∨ j = 7 ∨ j = 8 ∨ j = 9 ∨ j = 10 ∨ j = 14 ∨ j = 15 := by
      omega
    rcases this with rfl | rfl | rfl | rfl | rfl | rfl | rfl | rfl | rfl | rfl | rfl | rfl | rfl <;>
      simp [setTop]
  · rw [BitVec.getLsbD_of_ge _ _ (Nat.le_of_not_lt hj), BitVec.getLsbD_of_ge _ _ (Nat.le_of_not_lt hj)]

theorem topOf_eq {sw sw' : Word16} (h11 : sw.getLsbD 11 = sw'.getLsbD 11) (h12 : sw.getLsbD 12 = sw'.getLsbD 12)
    (h13 : sw.getLsbD 13 = sw'.getLsbD 13) : topOf sw = topOf sw' := by
  apply BitVec.eq_of_getLsbD_eq
  intro i hi
  simp only [topOf, BitVec.getLsbD_extractLsb', hi, decide_true, Bool.true_and]
  have : i = 0 ∨ i = 1 ∨ i = 2 := by omega
  rcases this with rfl | rfl | rfl <;> assumption

@[simp] theorem topOf_setTop (sw : Word16) (t : BitVec 3) : topOf (setTop sw t) = t := by
  apply BitVec.eq_of_getLsbD_eq
  intro i hi
  have : i = 0 ∨ i = 1 ∨ i = 2 := by omega
  rcases this with rfl | rfl | rfl <;>
    simp [topOf, setTop]

@[simp] theorem topOf_writeCodes (sw : Word16) (c : Codes) : topOf (writeCodes sw c) = topOf sw := by
  apply topOf_eq <;> rw [getLsbD_writeCodes] <;> rfl

@[simp] theorem topOf_setES (sw : Word16) (b : Bool) : topOf (setES sw b) = topOf sw := by
  apply topOf_eq <;> rw [getLsbD_setES] <;> rfl

/-! ## The exception flags -/

/-- Bit j of the flags of a set. -/
def Exc.bit (e : Exc) (j : Nat) : Bool :=
  match j with
  | 0 => e.ie
  | 1 => e.de
  | 2 => e.ze
  | 3 => e.oe
  | 4 => e.ue
  | 5 => e.pe
  | 6 => e.sf
  | _ => false

theorem getLsbD_toSw (e : Exc) {j : Nat} (hj : j < 16) : e.toSw.getLsbD j = e.bit j := by
  obtain ⟨a, b, c, d, f, g, h⟩ := e
  interval_cases j <;> revert a b c d f g h <;> decide

@[simp] theorem topOf_or_toSw (sw : Word16) (e : Exc) : topOf (sw ||| e.toSw) = topOf sw := by
  apply topOf_eq <;> rw [BitVec.getLsbD_or, getLsbD_toSw _ (by decide)] <;> simp [Exc.bit]

theorem reached_sf (e : Exc) (cw : Word16) : (e.reached cw).sf = e.sf := by unfold Exc.reached; split <;> rfl

theorem getLsbD_raiseFlags (sw cw : Word16) (e : Exc) {j : Nat} (hj : j < 16) :
    (raiseFlags sw cw e).getLsbD j =
      if j = 15 ∨ j = 7 then sw.getLsbD j || (e.unmasked cw).any else (sw.getLsbD j || (e.reached cw).bit j) := by
  unfold raiseFlags
  have h7 : (e.reached cw).bit 7 = false := rfl
  have h15 : (e.reached cw).bit 15 = false := rfl
  split
  · rename_i h
    rw [getLsbD_setES, BitVec.getLsbD_or, getLsbD_toSw _ hj, h]
    split <;> simp
  · rename_i h
    rw [BitVec.getLsbD_or, getLsbD_toSw _ hj]
    split
    · rename_i h'
      rcases h' with rfl | rfl <;> simp [h7, h15, h]
    · rfl

@[simp] theorem topOf_raiseFlags (sw cw : Word16) (e : Exc) : topOf (raiseFlags sw cw e) = topOf sw := by
  apply topOf_eq <;> rw [getLsbD_raiseFlags _ _ _ (by decide)] <;> simp [Exc.bit]

/-! ## ES and B -/

theorem swES_eq (sw : Word16) : swES sw = sw.getLsbD 7 := rfl

@[simp] theorem swES_writeCodes (sw : Word16) (c : Codes) : swES (writeCodes sw c) = swES sw := by
  rw [swES_eq, getLsbD_writeCodes]; rfl

@[simp] theorem swES_setTop (sw : Word16) (t : BitVec 3) : swES (setTop sw t) = swES sw :=
  getLsbD_setTop sw t (by decide)

@[simp] theorem swES_setES (sw : Word16) (b : Bool) : swES (setES sw b) = b := by rw [swES_eq, getLsbD_setES]; rfl

theorem swES_raiseFlags (sw cw : Word16) (e : Exc) : swES (raiseFlags sw cw e) = (swES sw || (e.unmasked cw).any) := by
  rw [swES_eq, getLsbD_raiseFlags _ _ _ (by decide)]; rfl

/-- The unmasked flags that are set, flag by flag. -/
theorem unmaskedPending_eq (sw cw : Word16) :
    unmaskedPending sw cw =
      (sw.getLsbD 0 && !cw.getLsbD 0 || sw.getLsbD 1 && !cw.getLsbD 1 || sw.getLsbD 2 && !cw.getLsbD 2 ||
        sw.getLsbD 3 && !cw.getLsbD 3 || sw.getLsbD 4 && !cw.getLsbD 4 || sw.getLsbD 5 && !cw.getLsbD 5) := by
  rw [Bool.eq_iff_iff]
  unfold unmaskedPending
  rw [bne_iff_ne, Ne, BitVec.eq_of_getLsbD_eq_iff]
  constructor
  · intro h
    by_contra hc
    apply h
    intro i hi
    simp only [Bool.or_eq_true, Bool.and_eq_true, Bool.not_eq_true', not_or] at hc
    interval_cases i <;> simp_all
  · intro h hc
    have h0 := hc 0 (by decide)
    have h1 := hc 1 (by decide)
    have h2 := hc 2 (by decide)
    have h3 := hc 3 (by decide)
    have h4 := hc 4 (by decide)
    have h5 := hc 5 (by decide)
    simp at h0 h1 h2 h3 h4 h5 h
    grind

theorem unmaskedPending_congr {sw sw' : Word16} (cw : Word16) (h : ∀ j, j < 6 → sw.getLsbD j = sw'.getLsbD j) :
    unmaskedPending sw cw = unmaskedPending sw' cw := by
  rw [unmaskedPending_eq, unmaskedPending_eq, h 0, h 1, h 2, h 3, h 4, h 5] <;> decide

@[simp] theorem unmaskedPending_writeCodes (sw cw : Word16) (c : Codes) :
    unmaskedPending (writeCodes sw c) cw = unmaskedPending sw cw := by
  apply unmaskedPending_congr
  intro j hj
  rw [getLsbD_writeCodes]
  interval_cases j <;> rfl

@[simp] theorem unmaskedPending_setTop (sw cw : Word16) (t : BitVec 3) :
    unmaskedPending (setTop sw t) cw = unmaskedPending sw cw :=
  unmaskedPending_congr cw fun _ hj => getLsbD_setTop sw t (by omega)

@[simp] theorem unmaskedPending_setES (sw cw : Word16) (b : Bool) :
    unmaskedPending (setES sw b) cw = unmaskedPending sw cw := by
  apply unmaskedPending_congr
  intro j hj
  rw [getLsbD_setES]
  interval_cases j <;> rfl

/-- Raising flags makes an unmasked exception pending exactly when one of them is unmasked (R40, R190). -/
theorem unmaskedPending_raiseFlags (sw cw : Word16) (e : Exc) :
    unmaskedPending (raiseFlags sw cw e) cw = (unmaskedPending sw cw || (e.unmasked cw).any) := by
  rw [unmaskedPending_eq, unmaskedPending_eq]
  simp only [getLsbD_raiseFlags _ _ _ (show 0 < 16 by decide), getLsbD_raiseFlags _ _ _ (show 1 < 16 by decide),
    getLsbD_raiseFlags _ _ _ (show 2 < 16 by decide), getLsbD_raiseFlags _ _ _ (show 3 < 16 by decide),
    getLsbD_raiseFlags _ _ _ (show 4 < 16 by decide), getLsbD_raiseFlags _ _ _ (show 5 < 16 by decide)]
  by_cases hd : e.de && !cw.getLsbD 1
  · have hr : (e.reached cw).de = true := by unfold Exc.reached maskDM; rw [if_pos hd]; simp_all
    simp_all [Exc.bit, Exc.any, Exc.unmasked, maskDM]
  · have hr : e.reached cw = e := by unfold Exc.reached maskDM; rw [if_neg hd]
    rw [hr]
    norm_num only [Exc.bit, Exc.any, Exc.unmasked, maskIM, maskDM, maskZM, maskOM, maskUM, maskPM, if_false, or_self,
      Bool.and_or_distrib_right]
    ac_rfl

/-! ## CW -/

theorem cwStored_idem (v : Word16) : cwStored (cwStored v) = cwStored v := by
  apply BitVec.eq_of_getLsbD_eq
  intro i hi
  interval_cases i <;> simp [cwStored]

/-- Two words agree under a mask when they agree on each of its bits. -/
theorem sw_mask_of {a b : Word16} (mask : Word16)
    (h : ∀ j, j < 16 → mask.getLsbD j = true → a.getLsbD j = b.getLsbD j) : a &&& mask = b &&& mask := by
  apply BitVec.eq_of_getLsbD_eq
  intro j hj
  rw [BitVec.getLsbD_and, BitVec.getLsbD_and]
  cases hm : mask.getLsbD j
  · simp
  · rw [h j hj hm]

/-- The condition codes are bits 8, 9, 10 and 14: no other bit is written. -/
theorem writeCodes_mask (sw : Word16) (c : Codes) (mask : Word16)
    (h : mask &&& 0x4700 = 0) : writeCodes sw c &&& mask = sw &&& mask := by
  apply sw_mask_of
  intro j hj hm
  rw [getLsbD_writeCodes]
  have hh : ∀ k, k < 16 → (0x4700 : Word16).getLsbD k = true → mask.getLsbD k = false := by
    intro k hk hk2
    have := congrArg (fun w => BitVec.getLsbD w k) h
    simp only [BitVec.getLsbD_and, hk2] at this
    simpa using this
  rw [if_neg, if_neg, if_neg, if_neg]
  all_goals (rintro rfl; rw [hh _ (by omega) (by rfl)] at hm; cases hm)

/-- EFLAGS after a compare, bit by bit (R330). -/
theorem relEflags_bits (f : Word32) (r : Rel) (j : Nat) (hj : j < 32) :
    (relEflags f r).getLsbD j =
      if j = 4 ∨ j = 7 ∨ j = 11 then false
      else if j = 0 then (r == .lt || r == .unordered)
      else if j = 2 then r == .unordered
      else if j = 6 then (r == .eq || r == .unordered)
      else f.getLsbD j := by
  unfold relEflags
  simp only
  repeat rw [getLsbD_setBit _ (by omega)]
  split_ifs <;> first | rfl | omega

/-- CW.RC by the value of its two bits (R45). -/
theorem rcOf_eq (cw : Word16) :
    rcOf cw =
      if cw.extractLsb' 10 2 = 0 then .rn
      else if cw.extractLsb' 10 2 = 1 then .rd
      else if cw.extractLsb' 10 2 = 2 then .ru
      else .rz := by
  unfold rcOf
  generalize cw.extractLsb' 10 2 = x
  revert x
  decide

end Sys2Proof.Machine
end

