-- ==== Sys2Proof/Laws/Commit.lean ====
section
/-! SUPPORT. The register stack (spec/10_state.md R33 to R37) and COMMIT (spec/40_numerics.md R190): what each leaves unchanged, and
what it writes. -/

namespace Sys2Proof.Machine

variable (s : State)

/-! ## Registers and tags -/

theorem reg_setReg (k j : BitVec 3) (v : F80) : (s.setReg k v).reg j = if j = k then v else s.reg j := by
  simp only [State.reg, setReg_regs, Vector.getElem_set, BitVec.toNat_inj, eq_comm]

theorem tag_setReg (k j : BitVec 3) (v : F80) : (s.setReg k v).tag j = if j = k then tagOf v else s.tag j := by
  simp only [State.tag, setReg_tags, Vector.getElem_set, BitVec.toNat_inj, eq_comm]

theorem tag_freeReg (k j : BitVec 3) : (s.freeReg k).tag j = if j = k then .empty else s.tag j := by
  simp only [State.tag, freeReg_tags, Vector.getElem_set, BitVec.toNat_inj, eq_comm]

@[simp] theorem reg_freeReg (k j : BitVec 3) : (s.freeReg k).reg j = s.reg j := rfl

@[simp] theorem reg_withTop (t j : BitVec 3) : (s.withTop t).reg j = s.reg j := rfl

@[simp] theorem tag_withTop (t j : BitVec 3) : (s.withTop t).tag j = s.tag j := rfl

@[simp] theorem top_withTop (t : BitVec 3) : (s.withTop t).top = t := topOf_setTop _ _

@[simp] theorem top_setReg (k : BitVec 3) (v : F80) : (s.setReg k v).top = s.top := rfl

@[simp] theorem top_freeReg (k : BitVec 3) : (s.freeReg k).top = s.top := rfl

theorem reg_writeSt (i j : BitVec 3) (v : F80) : (s.writeSt i v).reg j = if j = s.phys i then v else s.reg j :=
  reg_setReg s _ _ _

theorem tag_writeSt (i j : BitVec 3) (v : F80) : (s.writeSt i v).tag j = if j = s.phys i then tagOf v else s.tag j :=
  tag_setReg s _ _ _

@[simp] theorem top_writeSt (i : BitVec 3) (v : F80) : (s.writeSt i v).top = s.top := rfl

theorem phys_zero : s.phys 0 = s.top := BitVec.add_zero _

@[simp] theorem top_push (v : F80) : (s.push v).top = s.top - 1 := topOf_setTop _ _

theorem reg_push (v : F80) (j : BitVec 3) : (s.push v).reg j = if j = s.top - 1 then v else s.reg j := by
  unfold State.push
  rw [reg_writeSt, phys_zero, top_withTop, reg_withTop]

theorem tag_push (v : F80) (j : BitVec 3) : (s.push v).tag j = if j = s.top - 1 then tagOf v else s.tag j := by
  unfold State.push
  rw [tag_writeSt, phys_zero, top_withTop, tag_withTop]

@[simp] theorem top_pop : s.pop.top = s.top + 1 := topOf_setTop _ _

@[simp] theorem reg_pop (j : BitVec 3) : s.pop.reg j = s.reg j := rfl

theorem tag_pop (j : BitVec 3) : s.pop.tag j = if j = s.top then .empty else s.tag j := by
  unfold State.pop State.free
  rw [tag_withTop, tag_freeReg, phys_zero]

/-! ## Writes, pushes and pops -/

/-- A register write, push or pop changes no bit of SW but TOP. -/
theorem stackOp_sw_bit (op : StackOp) {j : Nat} (h : j < 11 ∨ 13 < j) : (s.stackOp op).sw.getLsbD j = s.sw.getLsbD j := by
  cases op with
  | write i v => rfl
  | push v => exact getLsbD_setTop _ _ h
  | pop => exact getLsbD_setTop _ _ h

theorem stackOps_sw_bit {j : Nat} (h : j < 11 ∨ 13 < j) : ∀ (ops : List StackOp) (s : State),
    (s.stackOps ops).sw.getLsbD j = s.sw.getLsbD j
  | [], _ => rfl
  | op :: ops, s => (stackOps_sw_bit h ops (s.stackOp op)).trans (stackOp_sw_bit s op h)

/-- The tag of every non-empty register is that of its contents (R35). -/
def TagsMatch (s : State) : Prop := ∀ k : BitVec 3, s.tag k ≠ .empty → s.tag k = tagOf (s.reg k)

theorem TagsMatch.setReg {s : State} (h : TagsMatch s) (k : BitVec 3) (v : F80) : TagsMatch (s.setReg k v) := by
  intro j hj
  rw [tag_setReg] at hj ⊢
  rw [reg_setReg]
  split
  · rfl
  · rw [if_neg ‹_›] at hj; exact h j hj

theorem TagsMatch.freeReg {s : State} (h : TagsMatch s) (k : BitVec 3) : TagsMatch (s.freeReg k) := by
  intro j hj
  rw [tag_freeReg] at hj ⊢
  split
  · rw [if_pos ‹_›] at hj; exact absurd rfl hj
  · rw [if_neg ‹_›] at hj; exact h j hj

theorem TagsMatch.stackOp {s : State} (h : TagsMatch s) (op : StackOp) : TagsMatch (s.stackOp op) := by
  cases op with
  | write i v => exact h.setReg _ v
  | push v => exact TagsMatch.setReg (s := s.withTop _) h _ v
  | pop => exact h.freeReg _

theorem TagsMatch.stackOps : ∀ (ops : List StackOp) {s : State}, TagsMatch s → TagsMatch (s.stackOps ops)
  | [], _, h => h
  | op :: ops, _, h => TagsMatch.stackOps ops (h.stackOp op)

@[simp] theorem stackOp_cw (op : StackOp) : (s.stackOp op).cw = s.cw := by cases op <;> rfl
@[simp] theorem stackOps_cw : ∀ (ops : List StackOp) (s : State), (s.stackOps ops).cw = s.cw
  | [], _ => rfl
  | op :: ops, s => (stackOps_cw ops (s.stackOp op)).trans (stackOp_cw s op)
@[simp] theorem stackOp_fip (op : StackOp) : (s.stackOp op).fip = s.fip := by cases op <;> rfl
@[simp] theorem stackOps_fip : ∀ (ops : List StackOp) (s : State), (s.stackOps ops).fip = s.fip
  | [], _ => rfl
  | op :: ops, s => (stackOps_fip ops (s.stackOp op)).trans (stackOp_fip s op)
@[simp] theorem stackOp_fcs (op : StackOp) : (s.stackOp op).fcs = s.fcs := by cases op <;> rfl
@[simp] theorem stackOps_fcs : ∀ (ops : List StackOp) (s : State), (s.stackOps ops).fcs = s.fcs
  | [], _ => rfl
  | op :: ops, s => (stackOps_fcs ops (s.stackOp op)).trans (stackOp_fcs s op)
@[simp] theorem stackOp_fop (op : StackOp) : (s.stackOp op).fop = s.fop := by cases op <;> rfl
@[simp] theorem stackOps_fop : ∀ (ops : List StackOp) (s : State), (s.stackOps ops).fop = s.fop
  | [], _ => rfl
  | op :: ops, s => (stackOps_fop ops (s.stackOp op)).trans (stackOp_fop s op)
@[simp] theorem stackOp_fdp (op : StackOp) : (s.stackOp op).fdp = s.fdp := by cases op <;> rfl
@[simp] theorem stackOps_fdp : ∀ (ops : List StackOp) (s : State), (s.stackOps ops).fdp = s.fdp
  | [], _ => rfl
  | op :: ops, s => (stackOps_fdp ops (s.stackOp op)).trans (stackOp_fdp s op)
@[simp] theorem stackOp_fds (op : StackOp) : (s.stackOp op).fds = s.fds := by cases op <;> rfl
@[simp] theorem stackOps_fds : ∀ (ops : List StackOp) (s : State), (s.stackOps ops).fds = s.fds
  | [], _ => rfl
  | op :: ops, s => (stackOps_fds ops (s.stackOp op)).trans (stackOp_fds s op)
@[simp] theorem stackOp_x87op (op : StackOp) : (s.stackOp op).x87op = s.x87op := by cases op <;> rfl
@[simp] theorem stackOps_x87op : ∀ (ops : List StackOp) (s : State), (s.stackOps ops).x87op = s.x87op
  | [], _ => rfl
  | op :: ops, s => (stackOps_x87op ops (s.stackOp op)).trans (stackOp_x87op s op)
@[simp] theorem stackOp_cr0 (op : StackOp) : (s.stackOp op).cr0 = s.cr0 := by cases op <;> rfl
@[simp] theorem stackOps_cr0 : ∀ (ops : List StackOp) (s : State), (s.stackOps ops).cr0 = s.cr0
  | [], _ => rfl
  | op :: ops, s => (stackOps_cr0 ops (s.stackOp op)).trans (stackOp_cr0 s op)
@[simp] theorem stackOp_neReq (op : StackOp) : (s.stackOp op).neReq = s.neReq := by cases op <;> rfl
@[simp] theorem stackOps_neReq : ∀ (ops : List StackOp) (s : State), (s.stackOps ops).neReq = s.neReq
  | [], _ => rfl
  | op :: ops, s => (stackOps_neReq ops (s.stackOp op)).trans (stackOp_neReq s op)
@[simp] theorem stackOp_irq13 (op : StackOp) : (s.stackOp op).irq13 = s.irq13 := by cases op <;> rfl
@[simp] theorem stackOps_irq13 : ∀ (ops : List StackOp) (s : State), (s.stackOps ops).irq13 = s.irq13
  | [], _ => rfl
  | op :: ops, s => (stackOps_irq13 ops (s.stackOp op)).trans (stackOp_irq13 s op)
@[simp] theorem stackOp_cycles (op : StackOp) : (s.stackOp op).cycles = s.cycles := by cases op <;> rfl
@[simp] theorem stackOps_cycles : ∀ (ops : List StackOp) (s : State), (s.stackOps ops).cycles = s.cycles
  | [], _ => rfl
  | op :: ops, s => (stackOps_cycles ops (s.stackOp op)).trans (stackOp_cycles s op)
@[simp] theorem stackOp_gpr (op : StackOp) : (s.stackOp op).gpr = s.gpr := by cases op <;> rfl
@[simp] theorem stackOps_gpr : ∀ (ops : List StackOp) (s : State), (s.stackOps ops).gpr = s.gpr
  | [], _ => rfl
  | op :: ops, s => (stackOps_gpr ops (s.stackOp op)).trans (stackOp_gpr s op)
@[simp] theorem stackOp_eflags (op : StackOp) : (s.stackOp op).eflags = s.eflags := by cases op <;> rfl
@[simp] theorem stackOps_eflags : ∀ (ops : List StackOp) (s : State), (s.stackOps ops).eflags = s.eflags
  | [], _ => rfl
  | op :: ops, s => (stackOps_eflags ops (s.stackOp op)).trans (stackOp_eflags s op)
@[simp] theorem stackOp_eip (op : StackOp) : (s.stackOp op).eip = s.eip := by cases op <;> rfl
@[simp] theorem stackOps_eip : ∀ (ops : List StackOp) (s : State), (s.stackOps ops).eip = s.eip
  | [], _ => rfl
  | op :: ops, s => (stackOps_eip ops (s.stackOp op)).trans (stackOp_eip s op)
@[simp] theorem stackOp_segs (op : StackOp) : (s.stackOp op).segs = s.segs := by cases op <;> rfl
@[simp] theorem stackOps_segs : ∀ (ops : List StackOp) (s : State), (s.stackOps ops).segs = s.segs
  | [], _ => rfl
  | op :: ops, s => (stackOps_segs ops (s.stackOp op)).trans (stackOp_segs s op)
@[simp] theorem stackOp_code32 (op : StackOp) : (s.stackOp op).code32 = s.code32 := by cases op <;> rfl
@[simp] theorem stackOps_code32 : ∀ (ops : List StackOp) (s : State), (s.stackOps ops).code32 = s.code32
  | [], _ => rfl
  | op :: ops, s => (stackOps_code32 ops (s.stackOp op)).trans (stackOp_code32 s op)
@[simp] theorem stackOp_mode (op : StackOp) : (s.stackOp op).mode = s.mode := by cases op <;> rfl
@[simp] theorem stackOps_mode : ∀ (ops : List StackOp) (s : State), (s.stackOps ops).mode = s.mode
  | [], _ => rfl
  | op :: ops, s => (stackOps_mode ops (s.stackOp op)).trans (stackOp_mode s op)
@[simp] theorem stackOp_mem (op : StackOp) : (s.stackOp op).mem = s.mem := by cases op <;> rfl
@[simp] theorem stackOps_mem : ∀ (ops : List StackOp) (s : State), (s.stackOps ops).mem = s.mem
  | [], _ => rfl
  | op :: ops, s => (stackOps_mem ops (s.stackOp op)).trans (stackOp_mem s op)
@[simp] theorem stackOp_faultMap (op : StackOp) : (s.stackOp op).faultMap = s.faultMap := by cases op <;> rfl
@[simp] theorem stackOps_faultMap : ∀ (ops : List StackOp) (s : State), (s.stackOps ops).faultMap = s.faultMap
  | [], _ => rfl
  | op :: ops, s => (stackOps_faultMap ops (s.stackOp op)).trans (stackOp_faultMap s op)
@[simp] theorem stackOp_cpuFault (op : StackOp) : (s.stackOp op).cpuFault = s.cpuFault := by cases op <;> rfl
@[simp] theorem stackOps_cpuFault : ∀ (ops : List StackOp) (s : State), (s.stackOps ops).cpuFault = s.cpuFault
  | [], _ => rfl
  | op :: ops, s => (stackOps_cpuFault ops (s.stackOp op)).trans (stackOp_cpuFault s op)
@[simp] theorem stackOp_completion (op : StackOp) : (s.stackOp op).completion = s.completion := by cases op <;> rfl
@[simp] theorem stackOps_completion : ∀ (ops : List StackOp) (s : State), (s.stackOps ops).completion = s.completion
  | [], _ => rfl
  | op :: ops, s => (stackOps_completion ops (s.stackOp op)).trans (stackOp_completion s op)
@[simp] theorem stackOp_inp (op : StackOp) : (s.stackOp op).inp = s.inp := by cases op <;> rfl
@[simp] theorem stackOps_inp : ∀ (ops : List StackOp) (s : State), (s.stackOps ops).inp = s.inp
  | [], _ => rfl
  | op :: ops, s => (stackOps_inp ops (s.stackOp op)).trans (stackOp_inp s op)
@[simp] theorem stackOp_params (op : StackOp) : (s.stackOp op).params = s.params := by cases op <;> rfl
@[simp] theorem stackOps_params : ∀ (ops : List StackOp) (s : State), (s.stackOps ops).params = s.params
  | [], _ => rfl
  | op :: ops, s => (stackOps_params ops (s.stackOp op)).trans (stackOp_params s op)
@[simp] theorem stackOp_draws (op : StackOp) : (s.stackOp op).draws = s.draws := by cases op <;> rfl
@[simp] theorem stackOps_draws : ∀ (ops : List StackOp) (s : State), (s.stackOps ops).draws = s.draws
  | [], _ => rfl
  | op :: ops, s => (stackOps_draws ops (s.stackOp op)).trans (stackOp_draws s op)

/-! ## COMMIT after its memory write -/

variable (c : Commit) (sup : Suppress)

@[simp] theorem finish_cw : (c.finish sup s).cw = s.cw := stackOps_cw _ _
@[simp] theorem finish_fip : (c.finish sup s).fip = s.fip := stackOps_fip _ _
@[simp] theorem finish_fcs : (c.finish sup s).fcs = s.fcs := stackOps_fcs _ _
@[simp] theorem finish_fop : (c.finish sup s).fop = s.fop := stackOps_fop _ _
@[simp] theorem finish_fdp : (c.finish sup s).fdp = s.fdp := stackOps_fdp _ _
@[simp] theorem finish_fds : (c.finish sup s).fds = s.fds := stackOps_fds _ _
@[simp] theorem finish_x87op : (c.finish sup s).x87op = s.x87op := stackOps_x87op _ _
@[simp] theorem finish_cr0 : (c.finish sup s).cr0 = s.cr0 := stackOps_cr0 _ _
@[simp] theorem finish_neReq : (c.finish sup s).neReq = s.neReq := stackOps_neReq _ _
@[simp] theorem finish_irq13 : (c.finish sup s).irq13 = s.irq13 := stackOps_irq13 _ _
@[simp] theorem finish_cycles : (c.finish sup s).cycles = s.cycles := stackOps_cycles _ _
@[simp] theorem finish_gpr : (c.finish sup s).gpr = s.gpr := stackOps_gpr _ _
@[simp] theorem finish_eip : (c.finish sup s).eip = s.eip := stackOps_eip _ _
@[simp] theorem finish_segs : (c.finish sup s).segs = s.segs := stackOps_segs _ _
@[simp] theorem finish_code32 : (c.finish sup s).code32 = s.code32 := stackOps_code32 _ _
@[simp] theorem finish_mode : (c.finish sup s).mode = s.mode := stackOps_mode _ _
@[simp] theorem finish_mem : (c.finish sup s).mem = s.mem := stackOps_mem _ _
@[simp] theorem finish_faultMap : (c.finish sup s).faultMap = s.faultMap := stackOps_faultMap _ _
@[simp] theorem finish_cpuFault : (c.finish sup s).cpuFault = s.cpuFault := stackOps_cpuFault _ _
@[simp] theorem finish_completion : (c.finish sup s).completion = s.completion := stackOps_completion _ _
@[simp] theorem finish_inp : (c.finish sup s).inp = s.inp := stackOps_inp _ _
@[simp] theorem finish_params : (c.finish sup s).params = s.params := stackOps_params _ _
@[simp] theorem finish_draws : (c.finish sup s).draws = s.draws + 1 :=
  congrArg (· + 1) (stackOps_draws _ _)

theorem finish_regs : (c.finish sup s).regs = (({ s with sw := raiseFlags s.sw s.cw c.exc } : State).stackOps (c.opsDone sup)).regs :=
  rfl

theorem finish_tags : (c.finish sup s).tags = (({ s with sw := raiseFlags s.sw s.cw c.exc } : State).stackOps (c.opsDone sup)).tags :=
  rfl

theorem finish_eflags : (c.finish sup s).eflags =
    match sup, c.eflags with
    | .nothing, some r => relEflags s.eflags r
    | _, _ => s.eflags := by
  unfold Commit.finish
  simp only [stackOps_eflags] <;> rfl

/-- The exception flags, ES and B after COMMIT are those `raiseFlags` gives. -/
theorem finish_sw_flag {j : Nat} (h : j < 8 ∨ j = 15) :
    (c.finish sup s).sw.getLsbD j = (raiseFlags s.sw s.cw c.exc).getLsbD j := by
  have h1 : ∀ (t : State), ({ t with sw := raiseFlags t.sw t.cw c.exc } : State).sw = raiseFlags t.sw t.cw c.exc := fun _ => rfl
  unfold Commit.finish
  simp only
  rw [getLsbD_writeCodes, if_neg (by omega), if_neg (by omega), if_neg (by omega), if_neg (by omega),
    stackOps_sw_bit (by omega), h1]

/-- The condition codes after COMMIT: those written, else as before. -/
theorem finish_sw_code {j : Nat} (h : j = 8 ∨ j = 9 ∨ j = 10 ∨ j = 14) :
    (c.finish sup s).sw.getLsbD j = (writeCodes s.sw (c.codesDone sup)).getLsbD j := by
  have hr : ∀ k, k = 8 ∨ k = 9 ∨ k = 10 ∨ k = 14 →
      ((({ s with sw := raiseFlags s.sw s.cw c.exc } : State).stackOps (c.opsDone sup)).sw).getLsbD k = s.sw.getLsbD k := by
    intro k hk
    rw [stackOps_sw_bit (by omega)]
    rw [getLsbD_raiseFlags _ _ _ (by omega), if_neg (by omega)]
    rcases hk with rfl | rfl | rfl | rfl <;> simp [Exc.bit]
  unfold Commit.finish
  simp only
  rw [getLsbD_writeCodes, getLsbD_writeCodes, hr 14 (by omega), hr 10 (by omega), hr 9 (by omega), hr 8 (by omega)]
  rcases h with rfl | rfl | rfl | rfl <;> rfl

theorem finish_top : (c.finish sup s).top = (({ s with sw := raiseFlags s.sw s.cw c.exc } : State).stackOps (c.opsDone sup)).top :=
  topOf_writeCodes _ _

theorem top_raise (sw' : Word16) (h : topOf sw' = topOf s.sw) : ({ s with sw := sw' } : State).top = s.top := h

/-! ## COMMIT -/

theorem commit_no_store (h : c.storeDone (c.suppress s.cw) = none) : commit c s = c.finish (c.suppress s.cw) s := by
  unfold commit; simp only [h]

theorem commit_register (h : c.store = none) : commit c s = c.finish (c.suppress s.cw) s := by
  apply commit_no_store
  unfold Commit.storeDone
  rw [h]
  split <;> simp_all

theorem commit_store {a : Word32} {n v : Nat} (h : c.storeDone (c.suppress s.cw) = some (a, n, v))
    (hw : accessFault s.faultMap true a n = none) :
    commit c s = c.finish (c.suppress s.cw) { s with mem := writeLE s.mem a n v } := by
  unfold commit; simp only [h, memWrite_of_accessible hw]

theorem commit_store_fault {a : Word32} {n v : Nat} {f : MemFault} (h : c.storeDone (c.suppress s.cw) = some (a, n, v))
    (hw : accessFault s.faultMap true a n = some f) : commit c s = s.raiseCpu f.vector := by
  unfold commit State.memWrite; simp only [h, hw]

/-- Everything COMMIT can do: finish with memory unchanged, finish after its one write, or hand over a write fault. -/
theorem commit_cases :
    commit c s = c.finish (c.suppress s.cw) s ∨
      (∃ a n v, c.storeDone (c.suppress s.cw) = some (a, n, v) ∧ accessFault s.faultMap true a n = none ∧
        commit c s = c.finish (c.suppress s.cw) { s with mem := writeLE s.mem a n v }) ∨
      ∃ a n v f, c.storeDone (c.suppress s.cw) = some (a, n, v) ∧ accessFault s.faultMap true a n = some f ∧
        commit c s = s.raiseCpu f.vector := by
  cases h : c.storeDone (c.suppress s.cw) with
  | none => exact .inl (commit_no_store s c h)
  | some x =>
    obtain ⟨a, n, v⟩ := x
    cases hf : accessFault s.faultMap true a n with
    | none => exact .inr (.inl ⟨a, n, v, rfl, hf, commit_store s c h hf⟩)
    | some f => exact .inr (.inr ⟨a, n, v, f, rfl, hf, commit_store_fault s c h hf⟩)

@[simp] theorem commit_cw : (commit c s).cw = s.cw := by
  rcases commit_cases s c with h | ⟨a, n, v, -, -, h⟩ | ⟨a, n, v, f, -, -, h⟩ <;> rw [h] <;> simp
@[simp] theorem commit_fip : (commit c s).fip = s.fip := by
  rcases commit_cases s c with h | ⟨a, n, v, -, -, h⟩ | ⟨a, n, v, f, -, -, h⟩ <;> rw [h] <;> simp
@[simp] theorem commit_fcs : (commit c s).fcs = s.fcs := by
  rcases commit_cases s c with h | ⟨a, n, v, -, -, h⟩ | ⟨a, n, v, f, -, -, h⟩ <;> rw [h] <;> simp
@[simp] theorem commit_fop : (commit c s).fop = s.fop := by
  rcases commit_cases s c with h | ⟨a, n, v, -, -, h⟩ | ⟨a, n, v, f, -, -, h⟩ <;> rw [h] <;> simp
@[simp] theorem commit_fdp : (commit c s).fdp = s.fdp := by
  rcases commit_cases s c with h | ⟨a, n, v, -, -, h⟩ | ⟨a, n, v, f, -, -, h⟩ <;> rw [h] <;> simp
@[simp] theorem commit_fds : (commit c s).fds = s.fds := by
  rcases commit_cases s c with h | ⟨a, n, v, -, -, h⟩ | ⟨a, n, v, f, -, -, h⟩ <;> rw [h] <;> simp
@[simp] theorem commit_x87op : (commit c s).x87op = s.x87op := by
  rcases commit_cases s c with h | ⟨a, n, v, -, -, h⟩ | ⟨a, n, v, f, -, -, h⟩ <;> rw [h] <;> simp
@[simp] theorem commit_cr0 : (commit c s).cr0 = s.cr0 := by
  rcases commit_cases s c with h | ⟨a, n, v, -, -, h⟩ | ⟨a, n, v, f, -, -, h⟩ <;> rw [h] <;> simp
@[simp] theorem commit_neReq : (commit c s).neReq = s.neReq := by
  rcases commit_cases s c with h | ⟨a, n, v, -, -, h⟩ | ⟨a, n, v, f, -, -, h⟩ <;> rw [h] <;> simp
@[simp] theorem commit_irq13 : (commit c s).irq13 = s.irq13 := by
  rcases commit_cases s c with h | ⟨a, n, v, -, -, h⟩ | ⟨a, n, v, f, -, -, h⟩ <;> rw [h] <;> simp
@[simp] theorem commit_cycles : (commit c s).cycles = s.cycles := by
  rcases commit_cases s c with h | ⟨a, n, v, -, -, h⟩ | ⟨a, n, v, f, -, -, h⟩ <;> rw [h] <;> simp
@[simp] theorem commit_gpr : (commit c s).gpr = s.gpr := by
  rcases commit_cases s c with h | ⟨a, n, v, -, -, h⟩ | ⟨a, n, v, f, -, -, h⟩ <;> rw [h] <;> simp
@[simp] theorem commit_eip : (commit c s).eip = s.eip := by
  rcases commit_cases s c with h | ⟨a, n, v, -, -, h⟩ | ⟨a, n, v, f, -, -, h⟩ <;> rw [h] <;> simp
@[simp] theorem commit_segs : (commit c s).segs = s.segs := by
  rcases commit_cases s c with h | ⟨a, n, v, -, -, h⟩ | ⟨a, n, v, f, -, -, h⟩ <;> rw [h] <;> simp
@[simp] theorem commit_code32 : (commit c s).code32 = s.code32 := by
  rcases commit_cases s c with h | ⟨a, n, v, -, -, h⟩ | ⟨a, n, v, f, -, -, h⟩ <;> rw [h] <;> simp
@[simp] theorem commit_mode : (commit c s).mode = s.mode := by
  rcases commit_cases s c with h | ⟨a, n, v, -, -, h⟩ | ⟨a, n, v, f, -, -, h⟩ <;> rw [h] <;> simp
@[simp] theorem commit_faultMap : (commit c s).faultMap = s.faultMap := by
  rcases commit_cases s c with h | ⟨a, n, v, -, -, h⟩ | ⟨a, n, v, f, -, -, h⟩ <;> rw [h] <;> simp
@[simp] theorem commit_inp : (commit c s).inp = s.inp := by
  rcases commit_cases s c with h | ⟨a, n, v, -, -, h⟩ | ⟨a, n, v, f, -, -, h⟩ <;> rw [h] <;> simp
@[simp] theorem commit_params : (commit c s).params = s.params := by
  rcases commit_cases s c with h | ⟨a, n, v, -, -, h⟩ | ⟨a, n, v, f, -, -, h⟩ <;> rw [h] <;> simp

end Sys2Proof.Machine
end

