-- ==== Sys2Proof/Laws/Entry.lean ====
section
/-! SUPPORT. FPU_ENTRY (spec/60_exceptions.md R420): everything an escape instruction can do before its own rule, and the rule of
each instruction. -/

namespace Sys2Proof.Machine

/-- A ready state runs the rule. -/
theorem escape_ready {kind : Kind} {s : State} (h : Ready kind s) (rule : State → State) :
    escape kind s rule = .next (rule s.normal) := by
  obtain ⟨h1, h2, h3, h4⟩ := h
  unfold escape
  rw [if_neg (by simp [h1]), if_neg (not_not.mpr h2), if_neg (by simp [h3]), if_neg]
  rintro ⟨hk, he⟩
  rw [h4 hk] at he
  exact Bool.false_ne_true he

/-- Everything FPU_ENTRY can do: hand over #UD or #NM, refuse in native mode, report, or run the rule. -/
theorem escape_cases (kind : Kind) (s : State) (rule : State → State) :
    escape kind s rule = .next (s.raiseCpu .invalidOpcode) ∨ escape kind s rule = .next (s.raiseCpu .deviceNotAvailable) ∨
      escape kind s rule = .refused .nativePassthrough ∨ escape kind s rule = .next s.report ∨
      (Ready kind s ∧ escape kind s rule = .next (rule s.normal)) := by
  by_cases h1 : s.inp.lock = true
  · exact .inl (by unfold escape; rw [if_pos h1])
  by_cases h2 : s.cr0 &&& 0xC = 0
  · by_cases h3 : s.params.softfloat = true
    · by_cases h4 : kind = .waiting ∧ swES s.sw = true
      · refine .inr (.inr (.inr (.inl ?_)))
        unfold escape
        rw [if_neg h1, if_neg (not_not.mpr h2), if_neg (by simp [h3]), if_pos h4]
      · have hr : Ready kind s := by
          refine ⟨by simpa using h1, h2, h3, fun hk => ?_⟩
          rcases he : swES s.sw with _ | _
          · rfl
          · exact absurd ⟨hk, he⟩ h4
        exact .inr (.inr (.inr (.inr ⟨hr, escape_ready hr rule⟩)))
    · refine .inr (.inr (.inl ?_))
      unfold escape
      rw [if_neg h1, if_neg (not_not.mpr h2), if_pos (by simpa using h3)]
  · refine .inr (.inl ?_)
    unfold escape
    rw [if_neg h1, if_pos h2]

/-- The rule of each escape instruction; WAIT has none. -/
def ruleOf : Instr → State → State
  | .fldM32fp m => loadFpRule .m32 m
  | .fldM64fp m => loadFpRule .m64 m
  | .fldM80fp m => loadExtRule m
  | .fldSt i => fun t => loadStRule i t.pointers
  | .fildM16int m => loadIntRule 2 m
  | .fildM32int m => loadIntRule 4 m
  | .fildM64int m => loadIntRule 8 m
  | .fbld m => loadBcdRule m
  | .fstM32fp m => storeFpRule .m32 false m
  | .fstM64fp m => storeFpRule .m64 false m
  | .fstSt i => fun t => storeStRule i false t.pointers
  | .fstpM32fp m => storeFpRule .m32 true m
  | .fstpM64fp m => storeFpRule .m64 true m
  | .fstpM80fp m => storeExtRule m
  | .fstpSt i => fun t => storeStRule i true t.pointers
  | .fstp1St i => fun t => storeStRule i true t.pointers
  | .fstp8St i => fun t => storeStRule i true t.pointers
  | .fstp9St i => fun t => storeStRule i true t.pointers
  | .fistM16int m => storeIntRule 2 false m
  | .fistM32int m => storeIntRule 4 false m
  | .fistpM16int m => storeIntRule 2 true m
  | .fistpM32int m => storeIntRule 4 true m
  | .fistpM64int m => storeIntRule 8 true m
  | .fbstp m => storeBcdRule m
  | .fld1 => fun t => constRule .one t.pointers
  | .fldl2t => fun t => constRule .l2t t.pointers
  | .fldl2e => fun t => constRule .l2e t.pointers
  | .fldpi => fun t => constRule .pi t.pointers
  | .fldlg2 => fun t => constRule .lg2 t.pointers
  | .fldln2 => fun t => constRule .ln2 t.pointers
  | .fldz => fun t => constRule .zero t.pointers
  | .fcmovb i => fun t => fcmovRule .b i t.pointers
  | .fcmove i => fun t => fcmovRule .e i t.pointers
  | .fcmovbe i => fun t => fcmovRule .be i t.pointers
  | .fcmovu i => fun t => fcmovRule .u i t.pointers
  | .fcmovnb i => fun t => fcmovRule .nb i t.pointers
  | .fcmovne i => fun t => fcmovRule .ne i t.pointers
  | .fcmovnbe i => fun t => fcmovRule .nbe i t.pointers
  | .fcmovnu i => fun t => fcmovRule .nu i t.pointers
  | .faddM32fp m => arithFpRule .add false .m32 m
  | .faddM64fp m => arithFpRule .add false .m64 m
  | .faddSt0Sti i => fun t => arithStRule .add false 0 i false t.pointers
  | .faddStiSt0 i => fun t => arithStRule .add false i 0 false t.pointers
  | .faddp i => fun t => arithStRule .add false i 0 true t.pointers
  | .fiaddM32int m => arithIntRule .add false 4 m
  | .fiaddM16int m => arithIntRule .add false 2 m
  | .fmulM32fp m => arithFpRule .mul false .m32 m
  | .fmulM64fp m => arithFpRule .mul false .m64 m
  | .fmulSt0Sti i => fun t => arithStRule .mul false 0 i false t.pointers
  | .fmulStiSt0 i => fun t => arithStRule .mul false i 0 false t.pointers
  | .fmulp i => fun t => arithStRule .mul false i 0 true t.pointers
  | .fimulM32int m => arithIntRule .mul false 4 m
  | .fimulM16int m => arithIntRule .mul false 2 m
  | .fsubM32fp m => arithFpRule .sub false .m32 m
  | .fsubM64fp m => arithFpRule .sub false .m64 m
  | .fsubSt0Sti i => fun t => arithStRule .sub false 0 i false t.pointers
  | .fsubStiSt0 i => fun t => arithStRule .sub false i 0 false t.pointers
  | .fsubp i => fun t => arithStRule .sub false i 0 true t.pointers
  | .fisubM32int m => arithIntRule .sub false 4 m
  | .fisubM16int m => arithIntRule .sub false 2 m
  | .fsubrM32fp m => arithFpRule .sub true .m32 m
  | .fsubrM64fp m => arithFpRule .sub true .m64 m
  | .fsubrSt0Sti i => fun t => arithStRule .sub true 0 i false t.pointers
  | .fsubrStiSt0 i => fun t => arithStRule .sub true i 0 false t.pointers
  | .fsubrp i => fun t => arithStRule .sub true i 0 true t.pointers
  | .fisubrM32int m => arithIntRule .sub true 4 m
  | .fisubrM16int m => arithIntRule .sub true 2 m
  | .fdivM32fp m => arithFpRule .div false .m32 m
  | .fdivM64fp m => arithFpRule .div false .m64 m
  | .fdivSt0Sti i => fun t => arithStRule .div false 0 i false t.pointers
  | .fdivStiSt0 i => fun t => arithStRule .div false i 0 false t.pointers
  | .fdivp i => fun t => arithStRule .div false i 0 true t.pointers
  | .fidivM32int m => arithIntRule .div false 4 m
  | .fidivM16int m => arithIntRule .div false 2 m
  | .fdivrM32fp m => arithFpRule .div true .m32 m
  | .fdivrM64fp m => arithFpRule .div true .m64 m
  | .fdivrSt0Sti i => fun t => arithStRule .div true 0 i false t.pointers
  | .fdivrStiSt0 i => fun t => arithStRule .div true i 0 false t.pointers
  | .fdivrp i => fun t => arithStRule .div true i 0 true t.pointers
  | .fidivrM32int m => arithIntRule .div true 4 m
  | .fidivrM16int m => arithIntRule .div true 2 m
  | .fabs => fun t => unaryRule absResult (fun _ => 64) t.pointers
  | .fchs => fun t => unaryRule chsResult (fun _ => 64) t.pointers
  | .fsqrt => fun t => unaryRule sqrtResult State.precision t.pointers
  | .frndint => fun t => unaryRule rndintResult (fun _ => 64) t.pointers
  | .fscale => fun t => binaryRule scaleResult t.pointers
  | .fxtract => fun t => xtractRule t.pointers
  | .fprem => fun t => remRule false t.pointers
  | .fprem1 => fun t => remRule true t.pointers
  | .f2xm1 => fun t => unaryRule (exp2m1Result t.draw) (fun _ => 64) t.pointers
  | .fyl2x => fun t => replacePopRule yl2xResult t.pointers
  | .fyl2xp1 => fun t => replacePopRule (yl2xp1Result t.draw) t.pointers
  | .fptan => fun t => trigPairRule ptanResult t.pointers
  | .fpatan => fun t => replacePopRule patanResult t.pointers
  | .fsin => fun t => trigRule sinResult t.pointers
  | .fcos => fun t => trigRule cosResult t.pointers
  | .fsincos => fun t => trigPairRule sincosResult t.pointers
  | .fcomM32fp m => compareFpRule .m32 [] m
  | .fcomM64fp m => compareFpRule .m64 [] m
  | .fcomSt i => fun t => compareStRule true i .cc [] t.pointers
  | .fcom2St i => fun t => compareStRule true i .cc [] t.pointers
  | .fcompM32fp m => compareFpRule .m32 [.pop] m
  | .fcompM64fp m => compareFpRule .m64 [.pop] m
  | .fcompSt i => fun t => compareStRule true i .cc [.pop] t.pointers
  | .fcomp3St i => fun t => compareStRule true i .cc [.pop] t.pointers
  | .fcomp5St i => fun t => compareStRule true i .cc [.pop] t.pointers
  | .fcompp => fun t => compareStRule true 1 .cc [.pop, .pop] t.pointers
  | .fucom i => fun t => compareStRule false i .cc [] t.pointers
  | .fucomp i => fun t => compareStRule false i .cc [.pop] t.pointers
  | .fucompp => fun t => compareStRule false 1 .cc [.pop, .pop] t.pointers
  | .fcomi i => fun t => compareStRule true i .eflags [] t.pointers
  | .fcomip i => fun t => compareStRule true i .eflags [.pop] t.pointers
  | .fucomi i => fun t => compareStRule false i .eflags [] t.pointers
  | .fucomip i => fun t => compareStRule false i .eflags [.pop] t.pointers
  | .fxam => fun t => examineRule t.pointers
  | .ftst => fun t => testRule t.pointers
  | .ficomM16int m => compareIntRule 2 [] m
  | .ficomM32int m => compareIntRule 4 [] m
  | .ficompM16int m => compareIntRule 2 [.pop] m
  | .ficompM32int m => compareIntRule 4 [.pop] m
  | .fxchSt i => fun t => exchangeRule i t.pointers
  | .fxch4St i => fun t => exchangeRule i t.pointers
  | .fxch7St i => fun t => exchangeRule i t.pointers
  | .fincstp => fun t => moveTopRule 1 t.pointers
  | .fdecstp => fun t => moveTopRule 7 t.pointers
  | .ffree i => fun t => freeRule i t.pointers
  | .ffreep i => fun t => freePopRule i t.pointers
  | .fnop => fun t => t.pointers.drawCodes
  | .fnstcw m => storeWordRule State.cw m
  | .fldcw m => loadCwRule m
  | .fnstswM2byte m => storeWordRule State.sw m
  | .fnstswAx => storeAxRule
  | .fnclex => clearExRule
  | .fninit => State.fninit
  | .fneni => fun t => t
  | .fndisi => fun t => t
  | .fnsetpm => fun t => t
  | .fnstenv m => storeEnvRule m
  | .fldenv m => loadEnvRule m
  | .fnsave m => saveRule m
  | .frstor m => restoreRule m
  | .wait => fun t => t

/-- Every instruction but WAIT is FPU_ENTRY and then its rule. -/
theorem exec_eq_escape {i : Instr} (h : i ≠ .wait) (s : State) : exec i s = escape (kindOf i) s (ruleOf i) := by
  cases i <;> first | rfl | exact absurd rfl h

/-- A ready state runs the instruction's rule. -/
theorem exec_ready {i : Instr} {s : State} (h : i ≠ .wait) (hr : Ready (kindOf i) s) : exec i s = .next (ruleOf i s.normal) :=
  (exec_eq_escape h s).trans (escape_ready hr _)

/-- Everything WAIT can do (R400, R401). -/
theorem execWait_cases (s : State) :
    execWait s = .next (s.raiseCpu .deviceNotAvailable) ∨ execWait s = .next s.report ∨
      execWait s = .next (s.charge waitCycles).normal := by
  unfold execWait
  split
  · exact .inl rfl
  · split
    · exact .inr (.inl rfl)
    · exact .inr (.inr rfl)

/-- Everything an instruction can do: hand over #UD or #NM, refuse in native mode, report, complete as WAIT does, or run its
rule. -/
theorem exec_cases (i : Instr) (s : State) :
    exec i s = .next (s.raiseCpu .invalidOpcode) ∨ exec i s = .next (s.raiseCpu .deviceNotAvailable) ∨
      exec i s = .refused .nativePassthrough ∨ exec i s = .next s.report ∨
      (i = .wait ∧ exec i s = .next (s.charge waitCycles).normal) ∨
      (i ≠ .wait ∧ Ready (kindOf i) s ∧ exec i s = .next (ruleOf i s.normal)) := by
  by_cases h : i = .wait
  · subst h
    rcases execWait_cases s with h | h | h
    · exact .inr (.inl h)
    · exact .inr (.inr (.inr (.inl h)))
    · exact .inr (.inr (.inr (.inr (.inl ⟨rfl, h⟩))))
  · rw [exec_eq_escape h]
    rcases escape_cases (kindOf i) s (ruleOf i) with h1 | h1 | h1 | h1 | ⟨h2, h1⟩
    · exact .inl h1
    · exact .inr (.inl h1)
    · exact .inr (.inr (.inl h1))
    · exact .inr (.inr (.inr (.inl h1)))
    · exact .inr (.inr (.inr (.inr (.inr ⟨h, h2, h1⟩))))

/-- A ready escape instruction answers what its rule gives. -/
theorem run_rule {i : Instr} {s u : State} (h : i ≠ .wait) (hr : Ready (kindOf i) s) (hu : ruleOf i s.normal = u) :
    exec i s = .next u := (exec_ready h hr).trans (hu ▸ rfl)

/-! ## Undefined encodings -/

/-- Everything that can come of an undefined encoding: #UD, the refusal, or the run of FNOP or of a named row. -/
theorem planUndefined_cases (c : Params) (a : AddrSize) (inp : Inputs) (esc modrm : Byte) (len : Nat) (rest : List Byte) :
    let op := x87OpOf esc modrm
    let behaviour := undefBehaviour c esc modrm
    let plan := planUndefined c a inp esc modrm len rest
    ((inp.lock = true ∨ behaviour = .ud) ∧ plan = .invalidOpcode inp op) ∨
      (inp.lock = false ∧ behaviour = .refuse ∧ plan = .refuse (.undefinedEncoding esc modrm)) ∨
      (inp.lock = false ∧ behaviour = .nop ∧ plan = .run .fnop inp (some op) len) ∨
      ∃ row, inp.lock = false ∧ behaviour = .likeRow row ∧ plan = .run (aliasOf a modrm rest row) inp (some op) len := by
  simp only [planUndefined]
  split
  · exact .inl ⟨.inl ‹_›, rfl⟩
  · have hl : inp.lock = false := by simpa using ‹¬inp.lock = true›
    split
    · exact .inr (.inl ⟨hl, ‹_›, rfl⟩)
    · exact .inr (.inr (.inl ⟨hl, ‹_›, rfl⟩))
    · exact .inl ⟨.inr ‹_›, rfl⟩
    · exact .inr (.inr (.inr ⟨_, hl, ‹_›, rfl⟩))

end Sys2Proof.Machine
end

