-- ==== Sys2Proof/Laws/Effects.lean ====
section
/-! SUPPORT. What a completed instruction leaves: the frames of Safety.lean, the flags, and the effects of COMMIT, each said once. -/

namespace Sys2Proof.Machine

/-- Two states with the same fields are the same. -/
theorem State.eq_of_fields {a b : State} (h0 : a.regs = b.regs) (h1 : a.tags = b.tags) (h2 : a.sw = b.sw) (h3 : a.cw = b.cw) (h4 : a.fip = b.fip) (h5 : a.fcs = b.fcs) (h6 : a.fop = b.fop) (h7 : a.fdp = b.fdp) (h8 : a.fds = b.fds) (h9 : a.x87op = b.x87op) (h10 : a.cr0 = b.cr0) (h11 : a.neReq = b.neReq) (h12 : a.irq13 = b.irq13) (h13 : a.cycles = b.cycles) (h14 : a.gpr = b.gpr) (h15 : a.eflags = b.eflags) (h16 : a.eip = b.eip) (h17 : a.segs = b.segs) (h18 : a.code32 = b.code32) (h19 : a.mode = b.mode) (h20 : a.mem = b.mem) (h21 : a.faultMap = b.faultMap) (h22 : a.cpuFault = b.cpuFault) (h23 : a.completion = b.completion) (h24 : a.inp = b.inp) (h25 : a.params = b.params) (h26 : a.draws = b.draws) : a = b := by
  cases a; cases b
  simp only at *
  subst_vars
  rfl

/-- `OnlyStack`, field by field. -/
theorem onlyStack_of {s t : State} (h0 : t.cw = s.cw) (h1 : t.x87op = s.x87op) (h2 : t.cr0 = s.cr0) (h3 : t.neReq = s.neReq) (h4 : t.irq13 = s.irq13) (h5 : t.cycles = s.cycles) (h6 : t.gpr = s.gpr) (h7 : t.eflags = s.eflags) (h8 : t.eip = s.eip) (h9 : t.segs = s.segs) (h10 : t.code32 = s.code32) (h11 : t.mode = s.mode) (h12 : t.mem = s.mem) (h13 : t.faultMap = s.faultMap) (h14 : t.cpuFault = s.cpuFault) (h15 : t.inp = s.inp) (h16 : t.params = s.params) (hc : t.completion = .normal) : OnlyStack s t :=
  State.eq_of_fields rfl rfl rfl h0 rfl rfl rfl rfl rfl h1 h2 h3 h4 h5 h6 h7 h8 h9 h10 h11 h12 h13 h14 hc h15 h16 rfl

variable {s : State} {c : Commit} {sup : Suppress}

/-! ## The flags -/

/-- The flags, ES and B after COMMIT are those `Raised` says. -/
theorem finish_raised (c : Commit) (sup : Suppress) (s : State) : Raised s (c.finish sup s) c.exc := by
  refine ⟨?_, ?_, ?_⟩
  · apply BitVec.eq_of_getLsbD_eq
    intro k hk
    rw [BitVec.getLsbD_and, BitVec.getLsbD_or, BitVec.getLsbD_and, getLsbD_toSw _ hk]
    by_cases h : k < 7
    · rw [finish_sw_flag _ _ _ (by omega), getLsbD_raiseFlags _ _ _ hk, if_neg (by omega)]
      have : (0x007F : Word16).getLsbD k = true := by interval_cases k <;> rfl
      rw [this, Bool.and_true, Bool.and_true]
    · have hk' : 7 ≤ k := by omega
      have h1 : (0x007F : Word16).getLsbD k = false := by interval_cases k <;> rfl
      have h2 : (c.exc.reached s.cw).bit k = false := by interval_cases k <;> rfl
      rw [h1, h2, Bool.and_false, Bool.and_false]
      rfl
  · unfold swES
    rw [finish_sw_flag _ _ _ (by omega), getLsbD_raiseFlags _ _ _ (by omega), if_pos (by omega)]
  · rw [finish_sw_flag _ _ _ (by omega), getLsbD_raiseFlags _ _ _ (by omega), if_pos (by omega)]

/-- Everything is suppressed exactly when an IE, DE or ZE is unmasked. -/
theorem suppress_all_iff (c : Commit) (cw : Word16) : c.suppress cw = .all ↔ (c.exc.unmasked cw).pre = true := by
  unfold Commit.suppress
  simp only
  split
  · simp_all
  · split <;> simp_all

theorem suppress_disturbed (h : ¬Undisturbed s c.exc) : c.suppress s.cw = .all := by
  rw [suppress_all_iff]
  unfold Undisturbed at h
  simpa using h

theorem suppress_undisturbed (h : Undisturbed s c.exc) (hs : c.store = none) : c.suppress s.cw = .nothing := by
  unfold Undisturbed at h
  unfold Commit.suppress
  simp [h, hs]

/-- C1 after COMMIT. -/
theorem finish_c1 {b : Bool} (h : c.codes.c1 = some b) (hf : c.c1Suppressed = some false) :
    c1Of (c.finish (c.suppress s.cw) s).sw = if (c.exc.unmasked s.cw).pre && !c.exc.sf then false else b := by
  unfold c1Of
  rw [finish_sw_code _ _ _ (by omega), getLsbD_writeCodes, if_neg (by omega), if_neg (by omega), if_pos rfl]
  unfold Commit.codesDone
  by_cases ha : c.suppress s.cw = .all
  · have hp := (suppress_all_iff c s.cw).mp ha
    cases hsf : c.exc.sf
    · rw [if_pos ⟨ha, rfl⟩, hp, hf]; rfl
    · rw [if_neg (by simp), h, hp]; rfl
  · have hp : (c.exc.unmasked s.cw).pre = false := by
      rw [suppress_all_iff] at ha
      simpa using ha
    rw [if_neg (by tauto), h, hp]
    rfl

theorem finish_numericEnd {b : Bool} (h : c.codes.c1 = some b) (hf : c.c1Suppressed = some false) :
    NumericEnd s (c.finish (c.suppress s.cw) s) c.exc b :=
  ⟨finish_raised _ _ _, finish_c1 h hf⟩

/-! ## The stack -/

theorem top_raised (u : State) (c : Commit) : ({ u with sw := raiseFlags u.sw u.cw c.exc } : State).top = u.top :=
  topOf_raiseFlags _ _ _

theorem phys_raised (u : State) (c : Commit) (i : BitVec 3) :
    ({ u with sw := raiseFlags u.sw u.cw c.exc } : State).phys i = u.phys i :=
  congrArg (· + i) (top_raised u c)

theorem phys_of_top {a b : State} (h : a.top = b.top) (i : BitVec 3) : a.phys i = b.phys i := congrArg (· + i) h

/-- With no register write, push or pop the stack is kept. -/
theorem finish_kept (h : c.opsDone sup = []) : KeptStack s (c.finish sup s) := by
  refine ⟨?_, ?_, ?_⟩
  · rw [finish_regs, h]; rfl
  · rw [finish_tags, h]; rfl
  · rw [finish_top, h]; exact top_raised s c

theorem finish_disturbed (h : ¬Undisturbed s c.exc) : KeptStack s (c.finish (c.suppress s.cw) s) := by
  apply finish_kept
  rw [suppress_disturbed h]
  rfl

/-- The stack after COMMIT is that after its writes, pushes and pops. -/
theorem finish_reg (j : BitVec 3) :
    (c.finish sup s).reg j = (({ s with sw := raiseFlags s.sw s.cw c.exc } : State).stackOps (c.opsDone sup)).reg j := rfl

theorem finish_tag (j : BitVec 3) :
    (c.finish sup s).tag j = (({ s with sw := raiseFlags s.sw s.cw c.exc } : State).stackOps (c.opsDone sup)).tag j := rfl

/-- Registers, tags and TOP after writes, pushes and pops depend on those before alone. -/
def SameStack (a b : State) : Prop := (∀ j, a.reg j = b.reg j) ∧ (∀ j, a.tag j = b.tag j) ∧ a.top = b.top

theorem sameStack_raised (u : State) (c : Commit) : SameStack { u with sw := raiseFlags u.sw u.cw c.exc } u :=
  ⟨fun _ => rfl, fun _ => rfl, top_raised u c⟩

theorem sameStack_finish (h : c.opsDone sup = ops) : SameStack (c.finish sup s)
    (({ s with sw := raiseFlags s.sw s.cw c.exc } : State).stackOps ops) :=
  h ▸ ⟨fun _ => rfl, fun _ => rfl, finish_top _ _ _⟩

theorem phys_sub_top_lt (s : State) (j : BitVec 3) : (j - s.top).toNat < 1 ↔ j = s.top := by
  rw [Nat.lt_one_iff, show (j - s.top).toNat = 0 ↔ j - s.top = 0 from ⟨fun h => BitVec.eq_of_toNat_eq h, fun h => by rw [h]; rfl⟩]
  generalize s.top = t
  revert j t
  decide

theorem sub_top_lt_two (t j : BitVec 3) : (j - t).toNat < 2 ↔ j = t ∨ j = t + 1 := by
  revert j t
  decide

/-- One register write, then `n` pops for n = 0 or 1. -/
theorem wrote_stackOps {u w : State} (h : SameStack w u) (i : BitVec 3) (v : F80) (pop : Bool) :
    Wrote pop.toNat u (w.stackOps (.write i v :: popIf pop)) (u.phys i) v := by
  obtain ⟨h1, h2, h3⟩ := h
  have hp : w.phys i = u.phys i := phys_of_top h3 i
  cases pop
  · refine ⟨?_, fun j => ⟨?_, ?_⟩⟩
    · show (w.writeSt i v).top = u.top + 0
      rw [top_writeSt, h3]; exact (BitVec.add_zero _).symm
    · show (w.writeSt i v).reg j = _
      rw [reg_writeSt, hp, h1]
    · show (w.writeSt i v).tag j = if (j - u.top).toNat < 0 then _ else _
      rw [tag_writeSt, hp, h2, if_neg (Nat.not_lt_zero _)]
  · refine ⟨?_, fun j => ⟨?_, ?_⟩⟩
    · show (w.writeSt i v).pop.top = u.top + 1
      rw [top_pop, top_writeSt, h3]
    · show (w.writeSt i v).pop.reg j = _
      rw [reg_pop, reg_writeSt, hp, h1]
    · show (w.writeSt i v).pop.tag j = if (j - u.top).toNat < 1 then _ else _
      rw [tag_pop, tag_writeSt, top_writeSt, hp, h2, h3]
      simp only [phys_sub_top_lt]

/-- The pops of a compare or a store. -/
theorem popped_stackOps {u w : State} (h : SameStack w u) (ops : List StackOp)
    (ho : ops = [] ∨ ops = [.pop] ∨ ops = [.pop, .pop]) : Popped ops.length u (w.stackOps ops) := by
  obtain ⟨h1, h2, h3⟩ := h
  rcases ho with rfl | rfl | rfl
  · exact ⟨h3.trans (BitVec.add_zero _).symm, fun j => ⟨h1 j, (h2 j).trans (if_neg (Nat.not_lt_zero _)).symm⟩⟩
  · refine ⟨?_, fun j => ⟨h1 j, ?_⟩⟩
    · show w.pop.top = u.top + 1
      rw [top_pop, h3]
    · show w.pop.tag j = if (j - u.top).toNat < 1 then _ else _
      rw [tag_pop, h2, h3]
      simp only [phys_sub_top_lt]
  · refine ⟨?_, fun j => ⟨h1 j, ?_⟩⟩
    · show w.pop.pop.top = u.top + 2
      rw [top_pop, top_pop, h3, BitVec.add_assoc]
      rfl
    · show w.pop.pop.tag j = if (j - u.top).toNat < 2 then _ else _
      rw [tag_pop, tag_pop, top_pop, h2, h3]
      simp only [sub_top_lt_two]
      split_ifs <;> simp_all

theorem pushed_stackOps {u w : State} (h : SameStack w u) (v : F80) : Pushed u (w.stackOps [.push v]) v := by
  obtain ⟨h1, h2, h3⟩ := h
  refine ⟨?_, fun j => ⟨?_, ?_⟩⟩
  · show (w.push v).top = _
    rw [top_push, h3]
  · show (w.push v).reg j = _
    rw [reg_push, h1, h3]
  · show (w.push v).tag j = _
    rw [tag_push, h2, h3]

theorem wroteAndPushed_stackOps {u w : State} (h : SameStack w u) (v x : F80) :
    WroteAndPushed u (w.stackOps [.write 0 v, .push x]) v x := by
  obtain ⟨h1, h2, h3⟩ := h
  refine ⟨?_, fun j => ⟨?_, ?_⟩⟩
  · show ((w.writeSt 0 v).push x).top = _
    rw [top_push, top_writeSt, h3]
  · show ((w.writeSt 0 v).push x).reg j = _
    rw [reg_push, reg_writeSt, top_writeSt, phys_zero, h1, h3]
  · show ((w.writeSt 0 v).push x).tag j = _
    rw [tag_push, tag_writeSt, top_writeSt, phys_zero, h2, h3]

/-! ## Instructions that end in COMMIT -/

theorem OnlyStack.finish {u : State} (h : OnlyStack s u) (he : c.eflags = none) : OnlyStack s (c.finish sup u) := by
  unfold OnlyStack at h
  apply onlyStack_of
  case hc => rw [finish_completion, h]
  case h7 => rw [finish_eflags, he, h]; cases sup <;> rfl
  all_goals simp only [finish_cw, finish_x87op, finish_cr0, finish_neReq, finish_irq13, finish_cycles, finish_gpr, finish_eip, finish_segs, finish_code32, finish_mode, finish_mem, finish_faultMap, finish_cpuFault, finish_inp, finish_params]; rw [h]

theorem onlyStack_pointers (s : State) : OnlyStack s s.normal.pointers := rfl

theorem onlyStack_pointersMem (s : State) (m : MemOp) : OnlyStack s (s.normal.pointersMem m) := rfl

theorem pointersReg_finish (s : State) : PointersReg s (c.finish sup s.normal.pointers) := by
  refine ⟨?_, ?_, ?_, ?_, ?_⟩ <;> simp only [finish_fip, finish_fcs, finish_fop, finish_fdp, finish_fds] <;> rfl

theorem pointersMem_finish (s : State) (m : MemOp) : PointersMem s (c.finish sup (s.normal.pointersMem m)) m := by
  refine ⟨?_, ?_, ?_, ?_, ?_⟩ <;> simp only [finish_fip, finish_fcs, finish_fop, finish_fdp, finish_fds] <;> rfl

/-- A register-form instruction whose rule is one COMMIT. -/
theorem completes_of_commit {i : Instr} {s : State} {c : Commit} {b : Bool} {effect : State → Prop}
    (hr : exec i s = .next (commit c s.normal.pointers)) (hs : c.store = none) (he : c.eflags = none)
    (h1 : c.codes.c1 = some b) (hf : c.c1Suppressed = some false)
    (hw : ∀ t, SameStack t (({ s.normal.pointers with sw := raiseFlags s.sw s.cw c.exc } : State).stackOps c.ops) → effect t) :
    Completes i s (c.exc, b) effect := by
  rw [commit_register _ _ hs] at hr
  refine ⟨_, hr, (onlyStack_pointers s).finish he, pointersReg_finish s,
    finish_numericEnd (s := s.normal.pointers) h1 hf, fun hu => hw _ ?_, fun hu => finish_disturbed (s := s.normal.pointers) hu⟩
  rw [suppress_undisturbed (s := s.normal.pointers) hu hs]
  exact sameStack_finish rfl

/-- An instruction that reads memory, whose rule is then one COMMIT. -/
theorem completesMem_of_commit {i : Instr} {s : State} {m : MemOp} {c : Commit} {b : Bool} {effect : State → Prop}
    (hr : exec i s = .next (commit c (s.normal.pointersMem m))) (hs : c.store = none) (he : c.eflags = none)
    (h1 : c.codes.c1 = some b) (hf : c.c1Suppressed = some false)
    (hw : ∀ t, SameStack t
      (({ s.normal.pointersMem m with sw := raiseFlags s.sw s.cw c.exc } : State).stackOps c.ops) → effect t) :
    CompletesMem i m s (c.exc, b) effect := by
  rw [commit_register _ _ hs] at hr
  refine ⟨_, hr, (onlyStack_pointersMem s m).finish he, pointersMem_finish s m,
    finish_numericEnd (s := s.normal.pointersMem m) h1 hf, fun hu => hw _ ?_,
    fun hu => finish_disturbed (s := s.normal.pointersMem m) hu⟩
  rw [suppress_undisturbed (s := s.normal.pointersMem m) hu hs]
  exact sameStack_finish rfl

theorem Wrote.congr {n : Nat} {s t t' : State} {k : BitVec 3} {v : F80} (h : Wrote n s t k v) (e : SameStack t' t) :
    Wrote n s t' k v := ⟨e.2.2.trans h.1, fun j => ⟨(e.1 j).trans (h.2 j).1, (e.2.1 j).trans (h.2 j).2⟩⟩

theorem Popped.congr {n : Nat} {s t t' : State} (h : Popped n s t) (e : SameStack t' t) : Popped n s t' :=
  ⟨e.2.2.trans h.1, fun j => ⟨(e.1 j).trans (h.2 j).1, (e.2.1 j).trans (h.2 j).2⟩⟩

theorem Pushed.congr {s t t' : State} {v : F80} (h : Pushed s t v) (e : SameStack t' t) : Pushed s t' v :=
  ⟨e.2.2.trans h.1, fun j => ⟨(e.1 j).trans (h.2 j).1, (e.2.1 j).trans (h.2 j).2⟩⟩

theorem WroteAndPushed.congr {s t t' : State} {v w : F80} (h : WroteAndPushed s t v w) (e : SameStack t' t) :
    WroteAndPushed s t' v w := ⟨e.2.2.trans h.1, fun j => ⟨(e.1 j).trans (h.2 j).1, (e.2.1 j).trans (h.2 j).2⟩⟩

/-- The state of a rule has the stack of the state before. -/
theorem sameStack_rule (s : State) (c : Commit) :
    SameStack ({ s.normal.pointers with sw := raiseFlags s.sw s.cw c.exc } : State) s :=
  ⟨fun _ => rfl, fun _ => rfl, topOf_raiseFlags _ _ _⟩

theorem sameStack_ruleMem (s : State) (m : MemOp) (c : Commit) :
    SameStack ({ s.normal.pointersMem m with sw := raiseFlags s.sw s.cw c.exc } : State) s :=
  ⟨fun _ => rfl, fun _ => rfl, topOf_raiseFlags _ _ _⟩

/-- A register-form instruction that writes one register and perhaps pops. -/
theorem completes_write {i : Instr} {s : State} {c : Commit} {b pop : Bool} {k : BitVec 3} {v : F80}
    (hr : exec i s = .next (commit c s.normal.pointers)) (hs : c.store = none) (he : c.eflags = none)
    (h1 : c.codes.c1 = some b) (hf : c.c1Suppressed = some false) (ho : c.ops = .write k v :: popIf pop) :
    Completes i s (c.exc, b) fun t => Wrote pop.toNat s t (s.phys k) v :=
  completes_of_commit hr hs he h1 hf fun _ ht => (wrote_stackOps (sameStack_rule s c) k v pop).congr (ho ▸ ht)

/-- A register-form instruction that pushes. -/
theorem completes_push {i : Instr} {s : State} {c : Commit} {b : Bool} {v : F80}
    (hr : exec i s = .next (commit c s.normal.pointers)) (hs : c.store = none) (he : c.eflags = none)
    (h1 : c.codes.c1 = some b) (hf : c.c1Suppressed = some false) (ho : c.ops = [.push v]) :
    Completes i s (c.exc, b) fun t => Pushed s t v :=
  completes_of_commit hr hs he h1 hf fun _ ht => (pushed_stackOps (sameStack_rule s c) v).congr (ho ▸ ht)

/-- A register-form instruction that replaces ST(0) and pushes. -/
theorem completes_writePush {i : Instr} {s : State} {c : Commit} {b : Bool} {v w : F80}
    (hr : exec i s = .next (commit c s.normal.pointers)) (hs : c.store = none) (he : c.eflags = none)
    (h1 : c.codes.c1 = some b) (hf : c.c1Suppressed = some false) (ho : c.ops = [.write 0 v, .push w]) :
    Completes i s (c.exc, b) fun t => WroteAndPushed s t v w :=
  completes_of_commit hr hs he h1 hf fun _ ht => (wroteAndPushed_stackOps (sameStack_rule s c) v w).congr (ho ▸ ht)

/-- An instruction that reads memory and writes one register. -/
theorem completesMem_write {i : Instr} {m : MemOp} {s : State} {c : Commit} {b : Bool} {k : BitVec 3} {v : F80}
    (hr : exec i s = .next (commit c (s.normal.pointersMem m))) (hs : c.store = none) (he : c.eflags = none)
    (h1 : c.codes.c1 = some b) (hf : c.c1Suppressed = some false) (ho : c.ops = [.write k v]) :
    CompletesMem i m s (c.exc, b) fun t => Wrote 0 s t (s.phys k) v :=
  completesMem_of_commit hr hs he h1 hf fun _ ht => (wrote_stackOps (sameStack_ruleMem s m c) k v false).congr (ho ▸ ht)

/-- An instruction that reads memory and pushes. -/
theorem completesMem_push {i : Instr} {m : MemOp} {s : State} {c : Commit} {b : Bool} {v : F80}
    (hr : exec i s = .next (commit c (s.normal.pointersMem m))) (hs : c.store = none) (he : c.eflags = none)
    (h1 : c.codes.c1 = some b) (hf : c.c1Suppressed = some false) (ho : c.ops = [.push v]) :
    CompletesMem i m s (c.exc, b) fun t => Pushed s t v :=
  completesMem_of_commit hr hs he h1 hf fun _ ht => (pushed_stackOps (sameStack_ruleMem s m c) v).congr (ho ▸ ht)

/-- A rule with a readable memory source goes on with what it holds. -/
theorem withSource_readable {s : State} {m : MemOp} {n : Nat} (h : Readable s m n) (rule : Nat → State → State) :
    withSource m n rule s.normal = rule (s.operand m n) (s.normal.pointersMem m) := by
  unfold withSource State.memRead
  have : accessFault s.normal.faultMap false (s.normal.addr m) n = none := h
  rw [this]
  rfl

/-- C2 after COMMIT, when the instruction writes it. -/
theorem finish_c2 (c : Commit) (sup) (s : State) {b} (h : c.codes.c2 = some b) :
    c2Of (c.finish sup s).sw = b := by
  unfold c2Of
  rw [finish_sw_code _ _ _ (by omega), getLsbD_writeCodes, if_neg (by omega), if_pos rfl]
  have : (c.codesDone sup).c2 = some b := by unfold Commit.codesDone; split <;> exact h
  rw [this]; rfl

end Sys2Proof.Machine
end

