-- ==== Sys2Proof/Laws/Numerics.lean ====
section
/-! SUPPORT. What the conversions and the sign operations answer: when a store has no image, and which flags it can raise. -/

namespace Sys2Proof.Machine

/-- The bits of a pattern with its sign replaced. -/
theorem withSign_getLsbD (v : F80) (b : Bool) (k : Nat) (hk : k < 80) :
    (withSign v b).getLsbD k = if k < 79 then v.getLsbD k else b := by
  have :
    (withSign v b) = BitVec.ofBool b ++ v.extractLsb' 0 79 := rfl
  rw [this, BitVec.getLsbD_append]
  by_cases h : k < 79
  · simp [h]
  · have : k = 79 := by omega
    subst this; cases b <;> simp

/-- A delivery to memory has no image exactly with an unmasked OE or UE, and raises no pre-computation exception. -/
theorem deliver_none (c : RoundCtx) (hc : c.toMemory = true) (neg : Bool) (x : Mag) (f : MemFp) :
    (deliveredBits f neg (deliver c neg x).out = none ↔
      ((deliver c neg x).exc.oe && !maskOM c.cw || (deliver c neg x).exc.ue && !maskUM c.cw) = true) ∧
      (deliver c neg x).exc.ie = false ∧ (deliver c neg x).exc.de = false ∧ (deliver c neg x).exc.ze = false := by
  unfold deliver deliverWith
  simp only
  split
  · unfold deliverOverflow
    split
    · rename_i h
      simp only [h]
      split <;> simp [deliveredBits]
    · rename_i h
      simp [hc, h, deliveredBits]
  · split
    · rename_i h
      unfold deliverUnmaskedTiny
      simp only [Bool.and_eq_true, Bool.not_eq_true'] at h
      simp [hc, h, deliveredBits]
    · rename_i h
      simp only [Bool.and_eq_true, Bool.not_eq_true', not_and, Bool.not_eq_false] at h
      simp [deliveredBits]
      intro h1 h2; exact h h1

/-- STORE_FP has no image exactly with an unmasked OE or UE (R160, R161). -/
theorem storeFp_none (cw : Word16) (t : Tininess) (f : MemFp) (v : F80) :
    (storeFp cw t f v).bits = none ↔
      (((storeFp cw t f v).exc.unmasked cw).oe || ((storeFp cw t f v).exc.unmasked cw).ue) = true := by
  unfold storeFp
  split
  · simp [Exc.unmasked, Exc.invalid]
  split
  · simp [Exc.unmasked]
  split
  · simp [Exc.unmasked, Exc.clear]
  split
  · simp [Exc.unmasked, Exc.clear]
  exact (deliver_none (storeCtx cw t f) rfl _ _ f).1

/-- STORE_INT always has an image, and raises neither OE nor UE. -/
theorem storeInt_bits (cw : Word16) (N : Nat) (v : F80) :
    (storeInt cw N v).bits ≠ none ∧ (storeInt cw N v).exc.oe = false ∧ (storeInt cw N v).exc.ue = false := by
  unfold storeInt
  split
  · simp only
    split <;> simp [Exc.invalid]
  · simp [Exc.invalid]

/-- STORE_BCD always has an image, and raises neither OE nor UE. -/
theorem storeBcd_bits (cw : Word16) (v : F80) :
    (storeBcd cw v).bits ≠ none ∧ (storeBcd cw v).exc.oe = false ∧ (storeBcd cw v).exc.ue = false := by
  unfold storeBcd
  split
  · simp only
    split <;> simp [Exc.invalid]
  · simp [Exc.invalid]

end Sys2Proof.Machine
end

