-- ==== Sys2Proof/Laws/PerInstr.lean ====
section
/-! SUPPORT. For every instruction: the word its encoding starts with carries the pattern of its row of
spec/opcode_table.json, written out from the table's mask and match. -/

namespace Sys2Proof.Laws.RowMatch

/-- A row of spec/opcode_table.json. -/
structure Row where
  mask : Nat
  pattern : Nat
  deriving DecidableEq, Repr

/-- A memory row leaves mod and rm free, and mod is not 3. -/
def memRow (pattern : Nat) : Row := ⟨0xFF38, pattern⟩

/-- A register row with a free rm. -/
def stiRow (pattern : Nat) : Row := ⟨0xFFF8, pattern⟩

/-- A register row with no free bit. -/
def fixedRow (pattern : Nat) : Row := ⟨0xFFFF, pattern⟩

/-- The row of each instruction. -/
def rowOf : Instr → Row
  | .fldM32fp _ => memRow 0xD900
  | .fldM64fp _ => memRow 0xDD00
  | .fldM80fp _ => memRow 0xDB28
  | .fldSt _ => stiRow 0xD9C0
  | .fildM16int _ => memRow 0xDF00
  | .fildM32int _ => memRow 0xDB00
  | .fildM64int _ => memRow 0xDF28
  | .fbld _ => memRow 0xDF20
  | .fstM32fp _ => memRow 0xD910
  | .fstM64fp _ => memRow 0xDD10
  | .fstSt _ => stiRow 0xDDD0
  | .fstpM32fp _ => memRow 0xD918
  | .fstpM64fp _ => memRow 0xDD18
  | .fstpM80fp _ => memRow 0xDB38
  | .fstpSt _ => stiRow 0xDDD8
  | .fstp1St _ => stiRow 0xD9D8
  | .fstp8St _ => stiRow 0xDFD0
  | .fstp9St _ => stiRow 0xDFD8
  | .fistM16int _ => memRow 0xDF10
  | .fistM32int _ => memRow 0xDB10
  | .fistpM16int _ => memRow 0xDF18
  | .fistpM32int _ => memRow 0xDB18
  | .fistpM64int _ => memRow 0xDF38
  | .fbstp _ => memRow 0xDF30
  | .fld1 => fixedRow 0xD9E8
  | .fldl2t => fixedRow 0xD9E9
  | .fldl2e => fixedRow 0xD9EA
  | .fldpi => fixedRow 0xD9EB
  | .fldlg2 => fixedRow 0xD9EC
  | .fldln2 => fixedRow 0xD9ED
  | .fldz => fixedRow 0xD9EE
  | .fcmovb _ => stiRow 0xDAC0
  | .fcmove _ => stiRow 0xDAC8
  | .fcmovbe _ => stiRow 0xDAD0
  | .fcmovu _ => stiRow 0xDAD8
  | .fcmovnb _ => stiRow 0xDBC0
  | .fcmovne _ => stiRow 0xDBC8
  | .fcmovnbe _ => stiRow 0xDBD0
  | .fcmovnu _ => stiRow 0xDBD8
  | .faddM32fp _ => memRow 0xD800
  | .faddM64fp _ => memRow 0xDC00
  | .faddSt0Sti _ => stiRow 0xD8C0
  | .faddStiSt0 _ => stiRow 0xDCC0
  | .faddp _ => stiRow 0xDEC0
  | .fiaddM32int _ => memRow 0xDA00
  | .fiaddM16int _ => memRow 0xDE00
  | .fmulM32fp _ => memRow 0xD808
  | .fmulM64fp _ => memRow 0xDC08
  | .fmulSt0Sti _ => stiRow 0xD8C8
  | .fmulStiSt0 _ => stiRow 0xDCC8
  | .fmulp _ => stiRow 0xDEC8
  | .fimulM32int _ => memRow 0xDA08
  | .fimulM16int _ => memRow 0xDE08
  | .fsubM32fp _ => memRow 0xD820
  | .fsubM64fp _ => memRow 0xDC20
  | .fsubSt0Sti _ => stiRow 0xD8E0
  | .fsubStiSt0 _ => stiRow 0xDCE8
  | .fsubp _ => stiRow 0xDEE8
  | .fisubM32int _ => memRow 0xDA20
  | .fisubM16int _ => memRow 0xDE20
  | .fsubrM32fp _ => memRow 0xD828
  | .fsubrM64fp _ => memRow 0xDC28
  | .fsubrSt0Sti _ => stiRow 0xD8E8
  | .fsubrStiSt0 _ => stiRow 0xDCE0
  | .fsubrp _ => stiRow 0xDEE0
  | .fisubrM32int _ => memRow 0xDA28
  | .fisubrM16int _ => memRow 0xDE28
  | .fdivM32fp _ => memRow 0xD830
  | .fdivM64fp _ => memRow 0xDC30
  | .fdivSt0Sti _ => stiRow 0xD8F0
  | .fdivStiSt0 _ => stiRow 0xDCF8
  | .fdivp _ => stiRow 0xDEF8
  | .fidivM32int _ => memRow 0xDA30
  | .fidivM16int _ => memRow 0xDE30
  | .fdivrM32fp _ => memRow 0xD838
  | .fdivrM64fp _ => memRow 0xDC38
  | .fdivrSt0Sti _ => stiRow 0xD8F8
  | .fdivrStiSt0 _ => stiRow 0xDCF0
  | .fdivrp _ => stiRow 0xDEF0
  | .fidivrM32int _ => memRow 0xDA38
  | .fidivrM16int _ => memRow 0xDE38
  | .fabs => fixedRow 0xD9E1
  | .fchs => fixedRow 0xD9E0
  | .fsqrt => fixedRow 0xD9FA
  | .frndint => fixedRow 0xD9FC
  | .fscale => fixedRow 0xD9FD
  | .fxtract => fixedRow 0xD9F4
  | .fprem => fixedRow 0xD9F8
  | .fprem1 => fixedRow 0xD9F5
  | .f2xm1 => fixedRow 0xD9F0
  | .fyl2x => fixedRow 0xD9F1
  | .fyl2xp1 => fixedRow 0xD9F9
  | .fptan => fixedRow 0xD9F2
  | .fpatan => fixedRow 0xD9F3
  | .fsin => fixedRow 0xD9FE
  | .fcos => fixedRow 0xD9FF
  | .fsincos => fixedRow 0xD9FB
  | .fcomM32fp _ => memRow 0xD810
  | .fcomM64fp _ => memRow 0xDC10
  | .fcomSt _ => stiRow 0xD8D0
  | .fcom2St _ => stiRow 0xDCD0
  | .fcompM32fp _ => memRow 0xD818
  | .fcompM64fp _ => memRow 0xDC18
  | .fcompSt _ => stiRow 0xD8D8
  | .fcomp3St _ => stiRow 0xDCD8
  | .fcomp5St _ => stiRow 0xDED0
  | .fcompp => fixedRow 0xDED9
  | .fucom _ => stiRow 0xDDE0
  | .fucomp _ => stiRow 0xDDE8
  | .fucompp => fixedRow 0xDAE9
  | .fcomi _ => stiRow 0xDBF0
  | .fcomip _ => stiRow 0xDFF0
  | .fucomi _ => stiRow 0xDBE8
  | .fucomip _ => stiRow 0xDFE8
  | .fxam => fixedRow 0xD9E5
  | .ftst => fixedRow 0xD9E4
  | .ficomM16int _ => memRow 0xDE10
  | .ficomM32int _ => memRow 0xDA10
  | .ficompM16int _ => memRow 0xDE18
  | .ficompM32int _ => memRow 0xDA18
  | .fxchSt _ => stiRow 0xD9C8
  | .fxch4St _ => stiRow 0xDDC8
  | .fxch7St _ => stiRow 0xDFC8
  | .fincstp => fixedRow 0xD9F7
  | .fdecstp => fixedRow 0xD9F6
  | .ffree _ => stiRow 0xDDC0
  | .ffreep _ => stiRow 0xDFC0
  | .fnop => fixedRow 0xD9D0
  | .fnstcw _ => memRow 0xD938
  | .fldcw _ => memRow 0xD928
  | .fnstswM2byte _ => memRow 0xDD38
  | .fnstswAx => fixedRow 0xDFE0
  | .fnclex => fixedRow 0xDBE2
  | .fninit => fixedRow 0xDBE3
  | .fneni => fixedRow 0xDBE0
  | .fndisi => fixedRow 0xDBE1
  | .fnsetpm => fixedRow 0xDBE4
  | .fnstenv _ => memRow 0xD930
  | .fldenv _ => memRow 0xD920
  | .fnsave _ => memRow 0xDD30
  | .frstor _ => memRow 0xDD20
  | .wait => ⟨0xFF, 0x9B⟩

/-- The table's word of an instruction's bytes: escape byte, then ModRM byte; WAIT is one byte. -/
def tableWord : List Byte → Nat
  | [] => 0
  | [b] => b.toNat
  | b :: c :: _ => (b ++ c).toNat

/-- The mod bits of an instruction's word. -/
def modBits (w : Nat) : Nat := w / 64 % 4

/-- The word of an instruction's encoding matches its row, and a memory row has a mod other than 3. -/
def Statement (i : Instr) : Prop :=
  tableWord (encode i) &&& (rowOf i).mask = (rowOf i).pattern ∧
    ((rowOf i).mask = 0xFF38 → modBits (tableWord (encode i)) ≠ 3)

theorem mod_ne_three (m : MemOp) : (encodeMemOp m).1 ≠ 3 := by
  rcases m with d | ⟨b, d⟩ | d | ⟨b, d⟩ | ⟨s, x, b, d⟩ | ⟨s, x, d⟩ <;>
    cases d <;> simp [encodeMemOp, encodeDisp16, encodeDisp32]

theorem mem_word (esc reg : BitVec 3) (m : MemOp) :
    tableWord (encodeOpcode (.mem esc reg m)) &&& 0xFF38 = 0xD800 + 256 * esc.toNat + 8 * reg.toNat ∧
      (0xFF38 = 0xFF38 → modBits (tableWord (encodeOpcode (.mem esc reg m))) ≠ 3) := by
  have h := mod_ne_three m
  have key : ∀ (md : BitVec 2) (esc reg rm : BitVec 3), md ≠ 3 →
      (escapeByte esc ++ packByte md reg rm).toNat &&& 0xFF38 = 0xD800 + 256 * esc.toNat + 8 * reg.toNat ∧
        modBits (escapeByte esc ++ packByte md reg rm).toNat ≠ 3 := by decide
  exact ⟨(key _ esc reg _ h).1, fun _ => (key _ esc reg _ h).2⟩

theorem sti_word (esc reg rm : BitVec 3) :
    tableWord (encodeOpcode (.reg esc reg rm)) &&& 0xFFF8 = 0xD8C0 + 256 * esc.toNat + 8 * reg.toNat ∧
      (0xFFF8 = 0xFF38 → modBits (tableWord (encodeOpcode (.reg esc reg rm))) ≠ 3) := by
  revert esc reg rm
  decide

theorem fldM32fp (m : MemOp) : Statement (.fldM32fp m) := mem_word 1 0 m

theorem fldM64fp (m : MemOp) : Statement (.fldM64fp m) := mem_word 5 0 m

theorem fldM80fp (m : MemOp) : Statement (.fldM80fp m) := mem_word 3 5 m

theorem fldSt (i : BitVec 3) : Statement (.fldSt i) := sti_word 1 0 i

theorem fildM16int (m : MemOp) : Statement (.fildM16int m) := mem_word 7 0 m

theorem fildM32int (m : MemOp) : Statement (.fildM32int m) := mem_word 3 0 m

theorem fildM64int (m : MemOp) : Statement (.fildM64int m) := mem_word 7 5 m

theorem fbld (m : MemOp) : Statement (.fbld m) := mem_word 7 4 m

theorem fstM32fp (m : MemOp) : Statement (.fstM32fp m) := mem_word 1 2 m

theorem fstM64fp (m : MemOp) : Statement (.fstM64fp m) := mem_word 5 2 m

theorem fstSt (i : BitVec 3) : Statement (.fstSt i) := sti_word 5 2 i

theorem fstpM32fp (m : MemOp) : Statement (.fstpM32fp m) := mem_word 1 3 m

theorem fstpM64fp (m : MemOp) : Statement (.fstpM64fp m) := mem_word 5 3 m

theorem fstpM80fp (m : MemOp) : Statement (.fstpM80fp m) := mem_word 3 7 m

theorem fstpSt (i : BitVec 3) : Statement (.fstpSt i) := sti_word 5 3 i

theorem fstp1St (i : BitVec 3) : Statement (.fstp1St i) := sti_word 1 3 i

theorem fstp8St (i : BitVec 3) : Statement (.fstp8St i) := sti_word 7 2 i

theorem fstp9St (i : BitVec 3) : Statement (.fstp9St i) := sti_word 7 3 i

theorem fistM16int (m : MemOp) : Statement (.fistM16int m) := mem_word 7 2 m

theorem fistM32int (m : MemOp) : Statement (.fistM32int m) := mem_word 3 2 m

theorem fistpM16int (m : MemOp) : Statement (.fistpM16int m) := mem_word 7 3 m

theorem fistpM32int (m : MemOp) : Statement (.fistpM32int m) := mem_word 3 3 m

theorem fistpM64int (m : MemOp) : Statement (.fistpM64int m) := mem_word 7 7 m

theorem fbstp (m : MemOp) : Statement (.fbstp m) := mem_word 7 6 m

theorem fld1 : Statement .fld1 := by unfold Statement; decide

theorem fldl2t : Statement .fldl2t := by unfold Statement; decide

theorem fldl2e : Statement .fldl2e := by unfold Statement; decide

theorem fldpi : Statement .fldpi := by unfold Statement; decide

theorem fldlg2 : Statement .fldlg2 := by unfold Statement; decide

theorem fldln2 : Statement .fldln2 := by unfold Statement; decide

theorem fldz : Statement .fldz := by unfold Statement; decide

theorem fcmovb (i : BitVec 3) : Statement (.fcmovb i) := sti_word 2 0 i

theorem fcmove (i : BitVec 3) : Statement (.fcmove i) := sti_word 2 1 i

theorem fcmovbe (i : BitVec 3) : Statement (.fcmovbe i) := sti_word 2 2 i

theorem fcmovu (i : BitVec 3) : Statement (.fcmovu i) := sti_word 2 3 i

theorem fcmovnb (i : BitVec 3) : Statement (.fcmovnb i) := sti_word 3 0 i

theorem fcmovne (i : BitVec 3) : Statement (.fcmovne i) := sti_word 3 1 i

theorem fcmovnbe (i : BitVec 3) : Statement (.fcmovnbe i) := sti_word 3 2 i

theorem fcmovnu (i : BitVec 3) : Statement (.fcmovnu i) := sti_word 3 3 i

theorem faddM32fp (m : MemOp) : Statement (.faddM32fp m) := mem_word 0 0 m

theorem faddM64fp (m : MemOp) : Statement (.faddM64fp m) := mem_word 4 0 m

theorem faddSt0Sti (i : BitVec 3) : Statement (.faddSt0Sti i) := sti_word 0 0 i

theorem faddStiSt0 (i : BitVec 3) : Statement (.faddStiSt0 i) := sti_word 4 0 i

theorem faddp (i : BitVec 3) : Statement (.faddp i) := sti_word 6 0 i

theorem fiaddM32int (m : MemOp) : Statement (.fiaddM32int m) := mem_word 2 0 m

theorem fiaddM16int (m : MemOp) : Statement (.fiaddM16int m) := mem_word 6 0 m

theorem fmulM32fp (m : MemOp) : Statement (.fmulM32fp m) := mem_word 0 1 m

theorem fmulM64fp (m : MemOp) : Statement (.fmulM64fp m) := mem_word 4 1 m

theorem fmulSt0Sti (i : BitVec 3) : Statement (.fmulSt0Sti i) := sti_word 0 1 i

theorem fmulStiSt0 (i : BitVec 3) : Statement (.fmulStiSt0 i) := sti_word 4 1 i

theorem fmulp (i : BitVec 3) : Statement (.fmulp i) := sti_word 6 1 i

theorem fimulM32int (m : MemOp) : Statement (.fimulM32int m) := mem_word 2 1 m

theorem fimulM16int (m : MemOp) : Statement (.fimulM16int m) := mem_word 6 1 m

theorem fsubM32fp (m : MemOp) : Statement (.fsubM32fp m) := mem_word 0 4 m

theorem fsubM64fp (m : MemOp) : Statement (.fsubM64fp m) := mem_word 4 4 m

theorem fsubSt0Sti (i : BitVec 3) : Statement (.fsubSt0Sti i) := sti_word 0 4 i

theorem fsubStiSt0 (i : BitVec 3) : Statement (.fsubStiSt0 i) := sti_word 4 5 i

theorem fsubp (i : BitVec 3) : Statement (.fsubp i) := sti_word 6 5 i

theorem fisubM32int (m : MemOp) : Statement (.fisubM32int m) := mem_word 2 4 m

theorem fisubM16int (m : MemOp) : Statement (.fisubM16int m) := mem_word 6 4 m

theorem fsubrM32fp (m : MemOp) : Statement (.fsubrM32fp m) := mem_word 0 5 m

theorem fsubrM64fp (m : MemOp) : Statement (.fsubrM64fp m) := mem_word 4 5 m

theorem fsubrSt0Sti (i : BitVec 3) : Statement (.fsubrSt0Sti i) := sti_word 0 5 i

theorem fsubrStiSt0 (i : BitVec 3) : Statement (.fsubrStiSt0 i) := sti_word 4 4 i

theorem fsubrp (i : BitVec 3) : Statement (.fsubrp i) := sti_word 6 4 i

theorem fisubrM32int (m : MemOp) : Statement (.fisubrM32int m) := mem_word 2 5 m

theorem fisubrM16int (m : MemOp) : Statement (.fisubrM16int m) := mem_word 6 5 m

theorem fdivM32fp (m : MemOp) : Statement (.fdivM32fp m) := mem_word 0 6 m

theorem fdivM64fp (m : MemOp) : Statement (.fdivM64fp m) := mem_word 4 6 m

theorem fdivSt0Sti (i : BitVec 3) : Statement (.fdivSt0Sti i) := sti_word 0 6 i

theorem fdivStiSt0 (i : BitVec 3) : Statement (.fdivStiSt0 i) := sti_word 4 7 i

theorem fdivp (i : BitVec 3) : Statement (.fdivp i) := sti_word 6 7 i

theorem fidivM32int (m : MemOp) : Statement (.fidivM32int m) := mem_word 2 6 m

theorem fidivM16int (m : MemOp) : Statement (.fidivM16int m) := mem_word 6 6 m

theorem fdivrM32fp (m : MemOp) : Statement (.fdivrM32fp m) := mem_word 0 7 m

theorem fdivrM64fp (m : MemOp) : Statement (.fdivrM64fp m) := mem_word 4 7 m

theorem fdivrSt0Sti (i : BitVec 3) : Statement (.fdivrSt0Sti i) := sti_word 0 7 i

theorem fdivrStiSt0 (i : BitVec 3) : Statement (.fdivrStiSt0 i) := sti_word 4 6 i

theorem fdivrp (i : BitVec 3) : Statement (.fdivrp i) := sti_word 6 6 i

theorem fidivrM32int (m : MemOp) : Statement (.fidivrM32int m) := mem_word 2 7 m

theorem fidivrM16int (m : MemOp) : Statement (.fidivrM16int m) := mem_word 6 7 m

theorem fabs : Statement .fabs := by unfold Statement; decide

theorem fchs : Statement .fchs := by unfold Statement; decide

theorem fsqrt : Statement .fsqrt := by unfold Statement; decide

theorem frndint : Statement .frndint := by unfold Statement; decide

theorem fscale : Statement .fscale := by unfold Statement; decide

theorem fxtract : Statement .fxtract := by unfold Statement; decide

theorem fprem : Statement .fprem := by unfold Statement; decide

theorem fprem1 : Statement .fprem1 := by unfold Statement; decide

theorem f2xm1 : Statement .f2xm1 := by unfold Statement; decide

theorem fyl2x : Statement .fyl2x := by unfold Statement; decide

theorem fyl2xp1 : Statement .fyl2xp1 := by unfold Statement; decide

theorem fptan : Statement .fptan := by unfold Statement; decide

theorem fpatan : Statement .fpatan := by unfold Statement; decide

theorem fsin : Statement .fsin := by unfold Statement; decide

theorem fcos : Statement .fcos := by unfold Statement; decide

theorem fsincos : Statement .fsincos := by unfold Statement; decide

theorem fcomM32fp (m : MemOp) : Statement (.fcomM32fp m) := mem_word 0 2 m

theorem fcomM64fp (m : MemOp) : Statement (.fcomM64fp m) := mem_word 4 2 m

theorem fcomSt (i : BitVec 3) : Statement (.fcomSt i) := sti_word 0 2 i

theorem fcom2St (i : BitVec 3) : Statement (.fcom2St i) := sti_word 4 2 i

theorem fcompM32fp (m : MemOp) : Statement (.fcompM32fp m) := mem_word 0 3 m

theorem fcompM64fp (m : MemOp) : Statement (.fcompM64fp m) := mem_word 4 3 m

theorem fcompSt (i : BitVec 3) : Statement (.fcompSt i) := sti_word 0 3 i

theorem fcomp3St (i : BitVec 3) : Statement (.fcomp3St i) := sti_word 4 3 i

theorem fcomp5St (i : BitVec 3) : Statement (.fcomp5St i) := sti_word 6 2 i

theorem fcompp : Statement .fcompp := by unfold Statement; decide

theorem fucom (i : BitVec 3) : Statement (.fucom i) := sti_word 5 4 i

theorem fucomp (i : BitVec 3) : Statement (.fucomp i) := sti_word 5 5 i

theorem fucompp : Statement .fucompp := by unfold Statement; decide

theorem fcomi (i : BitVec 3) : Statement (.fcomi i) := sti_word 3 6 i

theorem fcomip (i : BitVec 3) : Statement (.fcomip i) := sti_word 7 6 i

theorem fucomi (i : BitVec 3) : Statement (.fucomi i) := sti_word 3 5 i

theorem fucomip (i : BitVec 3) : Statement (.fucomip i) := sti_word 7 5 i

theorem fxam : Statement .fxam := by unfold Statement; decide

theorem ftst : Statement .ftst := by unfold Statement; decide

theorem ficomM16int (m : MemOp) : Statement (.ficomM16int m) := mem_word 6 2 m

theorem ficomM32int (m : MemOp) : Statement (.ficomM32int m) := mem_word 2 2 m

theorem ficompM16int (m : MemOp) : Statement (.ficompM16int m) := mem_word 6 3 m

theorem ficompM32int (m : MemOp) : Statement (.ficompM32int m) := mem_word 2 3 m

theorem fxchSt (i : BitVec 3) : Statement (.fxchSt i) := sti_word 1 1 i

theorem fxch4St (i : BitVec 3) : Statement (.fxch4St i) := sti_word 5 1 i

theorem fxch7St (i : BitVec 3) : Statement (.fxch7St i) := sti_word 7 1 i

theorem fincstp : Statement .fincstp := by unfold Statement; decide

theorem fdecstp : Statement .fdecstp := by unfold Statement; decide

theorem ffree (i : BitVec 3) : Statement (.ffree i) := sti_word 5 0 i

theorem ffreep (i : BitVec 3) : Statement (.ffreep i) := sti_word 7 0 i

theorem fnop : Statement .fnop := by unfold Statement; decide

theorem fnstcw (m : MemOp) : Statement (.fnstcw m) := mem_word 1 7 m

theorem fldcw (m : MemOp) : Statement (.fldcw m) := mem_word 1 5 m

theorem fnstswM2byte (m : MemOp) : Statement (.fnstswM2byte m) := mem_word 5 7 m

theorem fnstswAx : Statement .fnstswAx := by unfold Statement; decide

theorem fnclex : Statement .fnclex := by unfold Statement; decide

theorem fninit : Statement .fninit := by unfold Statement; decide

theorem fneni : Statement .fneni := by unfold Statement; decide

theorem fndisi : Statement .fndisi := by unfold Statement; decide

theorem fnsetpm : Statement .fnsetpm := by unfold Statement; decide

theorem fnstenv (m : MemOp) : Statement (.fnstenv m) := mem_word 1 6 m

theorem fldenv (m : MemOp) : Statement (.fldenv m) := mem_word 1 4 m

theorem fnsave (m : MemOp) : Statement (.fnsave m) := mem_word 5 6 m

theorem frstor (m : MemOp) : Statement (.frstor m) := mem_word 5 4 m

theorem wait : Statement .wait := by unfold Statement; decide

end Sys2Proof.Laws.RowMatch
end

