-- ==== Sys2Proof/Tests/Slice0.lean ====
section
/-! SUPPORT. The model's own tests: ill-formed terms, words written out from spec/30_encoding.md, single instructions with the
results spec/95_test_vectors.md and the rules' examples give (named by vector or rule), and a state that meets the hypotheses
of each statement. -/

namespace Sys2Proof.Tests

open Sys2Proof.Machine

/-! ## Small states -/

/-- After FNINIT, the registers all +0. -/
def base : State := { State.reset with cw := 0x037F, tags := Vector.replicate 8 .empty }

/-- `base` with values on the stack, ST(0) first. -/
def stack : List F80 → State
  | [] => base
  | v :: vs => (stack vs).push v

/-- A state with `n` bytes written at 100h. -/
def holding (s : State) (n v : Nat) : State := { s with mem := writeLE s.mem 0x100 n v }

/-- The operand [100h]. -/
def at100 : MemOp := .abs16 0x100

/-- The next state of an outcome. -/
def after : Outcome → State
  | .next t => t
  | .fault _ => base
  | .refused _ => base

/-- Every access faults. -/
def faulty (s : State) : State := { s with faultMap := [⟨0, 2 ^ 32, true, true, .pageFault⟩] }

/-- CW with every exception unmasked. -/
def unmasked (s : State) : State := { s with cw := 0x0340 }

/-- An unmasked zero divide is pending (CW = 037Bh, SW = 8084h). -/
def pending (s : State) : State := { s with cw := 0x037B, sw := 0x8084 }

def one : F80 := 0x3FFF8000000000000000
def two : F80 := 0x40008000000000000000
def three : F80 := 0x4000C000000000000000
def minusOne : F80 := 0xBFFF8000000000000000
def plusInf : F80 := 0x7FFF8000000000000000
def minusZero : F80 := 0x80000000000000000000
def signalling : F80 := 0x7FFFA000000000000000
def huge : F80 := 0x403E8000000000000000

/-- Rounding to 64 bits, or to the precision of CW.PC, under a control word. -/
def ctx (cw : Word16) : NumCtx := { base with cw := cw }.numCtx (precisionOf Params.taken cw)

/-! ## Ill-formed memory operands (R120) -/

theorem test_wf_bp_without_displacement : Instr.wf (.fldM32fp (.ind16 .bp .none)) = false := by decide

theorem test_wf_esp_without_sib : Instr.wf (.fldcw (.ind32 .esp (.d8 4))) = false := by decide

theorem test_wf_ebp_without_displacement : Instr.wf (.faddM64fp (.ind32 .ebp .none)) = false := by decide

theorem test_wf_sib_ebp_without_displacement : Instr.wf (.fnsave (.sib 1 .eax .ebp .none)) = false := by decide

theorem test_wf_bp_with_displacement : Instr.wf (.fldM32fp (.ind16 .bp (.d8 0))) = true := by decide

/-! ## Words written out from the spec's encodings (R110, R118, R120, R123, R124) -/

theorem test_decode_fld_m32 : decode .a16 [0b11011001, 0b00_000_110, 0x00, 0x01] = .ok ⟨.fldM32fp at100, 4⟩ := by decide

theorem test_decode_fild_m64 :
    decode .a16 [0b11011111, 0b01_101_010, 0xFE] = .ok ⟨.fildM64int (.ind16 .bpSi (.d8 0xFE)), 3⟩ := by decide

theorem test_decode_fbstp :
    decode .a16 [0b11011111, 0b10_110_111, 0x34, 0x12] = .ok ⟨.fbstp (.ind16 .bx (.d16 0x1234)), 4⟩ := by decide

theorem test_decode_fldpi : decode .a16 [0b11011001, 0b11_101_011] = .ok ⟨.fldpi, 2⟩ := by decide

theorem test_decode_fcmovnu : decode .a16 [0b11011011, 0b11_011_001] = .ok ⟨.fcmovnu 1, 2⟩ := by decide

theorem test_decode_fdivr_sti : decode .a16 [0b11011100, 0b11_110_010] = .ok ⟨.fdivrStiSt0 2, 2⟩ := by decide

theorem test_decode_fdivp : decode .a16 [0b11011110, 0b11_111_001] = .ok ⟨.fdivp 1, 2⟩ := by decide

theorem test_decode_fiadd_m16 :
    decode .a16 [0b11011110, 0b00_000_100] = .ok ⟨.fiaddM16int (.ind16 .si .none), 2⟩ := by decide

theorem test_decode_fsincos : decode .a16 [0b11011001, 0b11_111_011] = .ok ⟨.fsincos, 2⟩ := by decide

theorem test_decode_fscale : decode .a16 [0b11011001, 0b11_111_101] = .ok ⟨.fscale, 2⟩ := by decide

theorem test_decode_fucomip : decode .a16 [0b11011111, 0b11_101_111] = .ok ⟨.fucomip 7, 2⟩ := by decide

theorem test_decode_ficomp_m32 :
    decode .a32 [0b11011010, 0b01_011_101, 0x08] = .ok ⟨.ficompM32int (.ind32 .ebp (.d8 8)), 3⟩ := by decide

theorem test_decode_fxch : decode .a16 [0b11011001, 0b11_001_011] = .ok ⟨.fxchSt 3, 2⟩ := by decide

theorem test_decode_frstor :
    decode .a32 [0b11011101, 0b00_100_101, 0x04, 0x03, 0x02, 0x01] = .ok ⟨.frstor (.abs32 0x01020304), 6⟩ := by decide

theorem test_decode_fnstsw_sib :
    decode .a32 [0b11011101, 0b01_111_100, 0b10_100_100, 0x10] = .ok ⟨.fnstswM2byte (.sib 2 .esp .esp (.d8 0x10)), 4⟩ := by decide

theorem test_decode_fnstenv_sib_abs :
    decode .a32 [0b11011001, 0b00_110_100, 0b11_110_101, 0x78, 0x56, 0x34, 0x12] = .ok ⟨.fnstenv (.sibAbs 3 .esi 0x12345678), 7⟩ := by decide

theorem test_decode_wait : decode .a16 [0b10011011, 0xD9] = .ok ⟨.wait, 1⟩ := by decide

theorem test_decode_undefined : decode .a16 [0xD9, 0b00_001_111] = .error (.undefined 0xD9 0x0F 2) := by decide

theorem test_decode_truncated : decode .a16 [0xDD, 0b10_000_000, 0x01] = .error .truncated := by decide

theorem test_decode_cpu_instruction : decode .a16 [0x90] = .error (.notX87 0x90) := by decide

theorem test_table_word : decodeTableWord 16 0xD8C0 = some (.faddSt0Sti 0) ∧ decodeTableWord 8 0x9B = some .wait := by decide

theorem test_encode_fsub : encode (.fsubStiSt0 2) = [0xDC, 0xEA] ∧ encode (.fsubrStiSt0 2) = [0xDC, 0xE2] := by decide

/-! ## Addresses and prefixes (R120, R122) -/

theorem test_address_wraps_at_64k :
    ({ base with gpr := { Gpr.reset with ebx := 0xFFFF } }).ref (.ind16 .bx (.d8 2)) = ⟨0, 1, 1⟩ := by decide

theorem test_address_sib :
    (({ base with gpr := { Gpr.reset with ecx := 3, edx := 0x100 } }).ref (.sib 2 .ecx .edx (.d8 0xFF))).off = 0x10B := by decide

theorem test_prefixes :
    takePrefixes {} [0x66, 0x2E, 0x67, 0xD9, 0xE8] = (⟨false, some .cs, true, true, 3⟩, [0xD9, 0xE8]) := by decide

/-! ## Entry (R420 to R430) -/

theorem test_E1_nm :
    (after (exec .fld1 { base with cr0 := 8 })).cpuFault = some ⟨.deviceNotAvailable, 0xF000, 0xFFF0⟩ := by decide

theorem test_E2_nm_nonwaiting : (after (exec .fninit { base with cr0 := 4 })).completion = .abnormal := by decide

theorem test_E4_deferred_request :
    after (exec .fld1 { pending base with cr0 := 0x20 }) =
      { pending base with cr0 := 0x20, neReq := true, completion := .abnormal } := by decide

theorem test_E5_irq13 :
    after (exec .fld1 (pending base)) = { pending base with irq13 := 1, completion := .abnormal } := by decide

theorem test_E9_lock_before_nm :
    (after (exec .fld1 { base with cr0 := 8, inp := ⟨true, none, .o16⟩ })).cpuFault =
      some ⟨.invalidOpcode, 0xF000, 0xFFF0⟩ := by decide

theorem test_wait_charges_four : (after (exec .wait base)).cycles = 4 := by decide

theorem test_wait_nm :
    (after (exec .wait { base with cr0 := 0xA })).cpuFault = some ⟨.deviceNotAvailable, 0xF000, 0xFFF0⟩ := by decide

theorem test_step_moves_eip : (after (step (base.withFetchWord 16 0xD9E8))).eip = 0xFFF2 := by decide

/-! ## Loads (R200 to R207) -/

theorem test_L1_fld_m32 :
    let t := after (exec (.fldM32fp at100) (holding base 4 0x3F800000))
    t.reg 7 = one ∧ t.fdp = 0x100 := by decide

theorem test_L2_fld_snan : loadFp .m32 0x7F800001 = (0x7FFFC000010000000000, Exc.invalid) := by decide

theorem test_L3_fld_denormal : loadFp .m32 1 = (0x3F6A8000000000000000, { de := true }) := by decide

theorem test_L5_fld_m64 : (after (exec (.fldM64fp at100) (holding base 8 0x3FF0000000000000))).reg 7 = one := by decide

theorem test_L6_fld_m80 :
    let t := after (exec (.fldM80fp at100) (holding base 10 0x7FFF8000000000000000))
    t.reg 7 = plusInf ∧ t.tag 7 = .special := by decide

theorem test_L7_fld_st : (after (exec (.fldSt 1) (stack [one, two]))).reg 5 = two := by decide

theorem test_L9_fld_empty : (after (exec (.fldSt 3) (stack [one]))).reg 6 = realIndefinite := by decide

theorem test_L10_fild_m16 : (after (exec (.fildM16int at100) (holding base 2 0xFFFF))).reg 7 = minusOne := by decide

theorem test_L11_fild_m32 :
    (after (exec (.fildM32int at100) (holding base 4 0x80000000))).reg 7 = 0xC01E8000000000000000 := by decide

theorem test_L12_fild_m64 :
    (after (exec (.fildM64int at100) (holding base 8 0x7FFFFFFFFFFFFFFF))).reg 7 = 0x403DFFFFFFFFFFFFFFFE := by decide

theorem test_L14_fbld :
    (after (exec (.fbld at100) (holding base 10 0x80000000000000001234))).reg 7 = 0xC0099A40000000000000 := by decide

/-! ## Stores (R208 to R220) -/

theorem test_S2_fst_m32_up :
    readLE (after (exec (.fstM32fp at100) { stack [0x3FFF8000008000000000] with cw := 0x0B7F })).mem 0x100 4 = 0x3F800001 := by decide

theorem test_S3_fst_m32_overflow :
    readLE (after (exec (.fstM32fp at100) (stack [0x407F8000000000000000]))).mem 0x100 4 = 0x7F800000 := by decide

theorem test_S7_fst_m64 :
    readLE (after (exec (.fstM64fp at100) (stack [0x3FFDAAAAAAAAAAAAAAAB]))).mem 0x100 8 = 0x3FD5555555555555 := by decide

theorem test_S5_fst_m32_unmasked_overflow :
    (after (exec (.fstM32fp at100) { stack [0x407F8000000000000000] with cw := 0x0377 })).mem = [] := by decide

theorem test_S8_fstp_m32 :
    let t := after (exec (.fstpM32fp at100) (stack [0x40029000000000000000]))
    readLE t.mem 0x100 4 = 0x41100000 ∧ t.tag 7 = .empty ∧ t.reg 7 = 0x40029000000000000000 := by decide

theorem test_fstp_m64_one : readLE (after (exec (.fstpM64fp at100) (stack [one]))).mem 0x100 8 = 0x3FF0000000000000 := by decide

theorem test_S10_fstp_m80 :
    readLE (after (exec (.fstpM80fp at100) (stack [plusInf]))).mem 0x100 10 = 0x7FFF8000000000000000 := by decide

theorem test_S11_fstp_st :
    let t := after (exec (.fstpSt 1) (stack [one, two]))
    t.reg 7 = one ∧ t.tag 6 = .empty := by decide

theorem test_fst_st : (after (exec (.fstSt 1) (stack [one, two]))).reg 7 = one := by decide

theorem test_fstp_aliases :
    (after (exec (.fstp1St 1) (stack [one, two]))).reg 7 = one ∧
      (after (exec (.fstp8St 1) (stack [one, two]))).reg 7 = one ∧ (after (exec (.fstp9St 1) (stack [one, two]))).reg 7 = one := by decide

theorem test_S13_fist_m16 :
    readLE (after (exec (.fistM16int at100) (stack [0x4000A000000000000000]))).mem 0x100 2 = 2 := by decide

theorem test_S14_fist_m32 :
    readLE (after (exec (.fistM32int at100) (stack [0x4000E000000000000000]))).mem 0x100 4 = 4 := by decide

theorem test_S16_fist_edge : storeInt 0x037F 16 0xC00E8000666666666666 = ⟨some 0x8000, { pe := true }, false⟩ := by decide

theorem test_S15_fistp_m16_range :
    readLE (after (exec (.fistpM16int at100) (stack [0x400DFFFF000000000000]))).mem 0x100 2 = 0x8000 := by decide

theorem test_fistp_m32_minus_one :
    readLE (after (exec (.fistpM32int at100) (stack [minusOne]))).mem 0x100 4 = 0xFFFFFFFF := by decide

theorem test_S18_fistp_m64_range :
    readLE (after (exec (.fistpM64int at100) (stack [huge]))).mem 0x100 8 = 0x8000000000000000 := by decide

theorem test_S19_fbstp :
    readLE (after (exec (.fbstp at100) (stack [0x40099A50000000000000]))).mem 0x100 10 = 0x1234 := by decide

/-! ## Constants and conditional moves (R221 to R238) -/

theorem test_K_constants :
    (after (exec .fld1 base)).reg 7 = one ∧ (after (exec .fldl2t { base with cw := 0x0B7F })).reg 7 = 0x4000D49A784BCD1B8AFF ∧
      (after (exec .fldl2e { base with cw := 0x077F })).reg 7 = 0x3FFFB8AA3B295C17F0BB ∧
      (after (exec .fldpi base)).reg 7 = 0x4000C90FDAA22168C235 ∧ (after (exec .fldlg2 base)).reg 7 = 0x3FFD9A209A84FBCFF799 ∧
      (after (exec .fldln2 { base with cw := 0x0F7F })).reg 7 = 0x3FFEB17217F7D1CF79AB ∧ (after (exec .fldz base)).tag 7 = .zero := by decide

theorem test_M1_fcmov_taken :
    (after (exec (.fcmovb 1) { stack [one, two] with eflags := 3 })).reg 6 = two ∧
      (after (exec (.fcmove 1) { stack [one, two] with eflags := 0x42 })).reg 6 = two ∧
      (after (exec (.fcmovbe 1) { stack [one, two] with eflags := 0x42 })).reg 6 = two ∧
      (after (exec (.fcmovu 1) { stack [one, two] with eflags := 6 })).reg 6 = two := by decide

theorem test_M2_fcmov_not_taken : (after (exec (.fcmovb 1) { stack [one, two] with eflags := 2 })).reg 6 = one := by decide

theorem test_M3_fcmov_negated :
    (after (exec (.fcmovnb 1) (stack [one, two]))).reg 6 = two ∧ (after (exec (.fcmovne 1) (stack [one, two]))).reg 6 = two ∧
      (after (exec (.fcmovnbe 1) (stack [one, two]))).reg 6 = two ∧ (after (exec (.fcmovnu 1) (stack [one, two]))).reg 6 = two := by decide

theorem test_M4_fcmov_empty : (after (exec (.fcmovb 1) (stack [one]))).reg 7 = realIndefinite := by decide

/-! ## Arithmetic (R252 to R301) -/

theorem test_A1_fadd : (after (exec (.faddSt0Sti 1) (stack [one, two]))).reg 6 = three := by decide

theorem test_A2_fadd_m32 : (after (exec (.faddM32fp at100) (holding (stack [one]) 4 0x40000000))).reg 7 = three := by decide

theorem test_A3_faddp :
    let t := after (exec (.faddp 1) (stack [one, two]))
    t.reg 7 = three ∧ t.tag 6 = .empty := by decide

theorem test_A4_fiadd_m16 : (after (exec (.fiaddM16int at100) (holding (stack [one]) 2 0xFFFF))).reg 7 = 0 := by decide

theorem test_A5_fsub_zero : (after (exec (.fsubSt0Sti 1) (stack [one, one]))).reg 6 = 0 := by decide

theorem test_A6_fsub_zero_down :
    (after (exec (.fsubSt0Sti 1) { stack [one, one] with cw := 0x077F })).reg 6 = minusZero := by decide

/-- R269, R270, R276, R277: DC E8+i subtracts ST(0) from ST(i), and DC E0+i the other way. -/
theorem test_sub_directions :
    (after (exec (.fsubStiSt0 1) (stack [one, three]))).reg 7 = two ∧
      (after (exec (.fsubrStiSt0 1) (stack [three, one]))).reg 7 = two ∧
      (after (exec (.fsubp 1) (stack [one, three]))).reg 7 = two ∧ (after (exec (.fsubrp 1) (stack [three, one]))).reg 7 = two := by decide

theorem test_A7_fmul : (after (exec (.fmulSt0Sti 1) (stack [three, three]))).reg 6 = 0x40029000000000000000 := by decide

theorem test_A8_fdiv :
    arithResult .div (ctx 0x037F) (.reg one) (.reg three) = ⟨0x3FFDAAAAAAAAAAAAAAAB, { pe := true }, true⟩ := by decide

theorem test_A10_fdiv_24_bits :
    arithResult .div (ctx 0x007F) (.reg one) (.reg three) = ⟨0x3FFDAAAAAB0000000000, { pe := true }, true⟩ := by decide

theorem test_A12_fdivr : (after (exec (.fdivrSt0Sti 1) (stack [three, one]))).reg 6 = 0x3FFDAAAAAAAAAAAAAAAB := by decide

theorem test_A14_zero_divide :
    arithResult .div (ctx 0x037F) (.reg minusOne) (.reg 0) = ⟨0xFFFF8000000000000000, { ze := true }, false⟩ := by decide

theorem test_A16_zero_divide_unmasked :
    (after (exec (.fdivSt0Sti 1) { stack [one, 0] with cw := 0x037B })).reg 6 = one := by decide

/-- V-A16: C1 is 0 when an unmasked ZE suppresses the write, whatever the draw of the other codes. -/
theorem test_A16_c1 (d : BitVec 4) :
    (Commit.codesDone { exc := { ze := true }, codes := drawnCodes d (some true) } .all).c1 = some false := rfl

theorem test_A17_inf_minus_inf :
    arithResult .add (ctx 0x037F) (.reg plusInf) (.reg 0xFFFF8000000000000000) = Result.invalid := by decide

theorem test_A20_round_up :
    arithResult .add (ctx 0x037F) (.reg one) (.reg 0x3FBFC000000000000000) =
      ⟨0x3FFF8000000000000001, { pe := true }, true⟩ := by decide

theorem test_A22_overflow_unmasked :
    arithResult .mul (ctx 0x0377) (.reg 0x7FFE8000000000000000) (.reg two) =
      ⟨0x1FFF8000000000000000, { oe := true }, false⟩ := by decide

theorem test_A24_nan :
    arithResult .add (ctx 0x037F) (.reg signalling) (.reg 0xFFFFC000000000000000) =
      ⟨0xFFFFC000000000000000, { ie := true }, false⟩ := by decide

theorem test_U1_fabs : (after (exec .fabs (stack [0xC0008000000000000000]))).reg 7 = two := by decide

theorem test_U2_fchs : (after (exec .fchs (stack [0]))).reg 7 = minusZero := by decide

theorem test_U5_fsqrt : sqrtResult (ctx 0x037F) two = ⟨0x3FFFB504F333F9DE6484, { pe := true }, false⟩ := by decide +kernel

theorem test_U9_frndint : rndintResult (ctx 0x0B7F) 0x4000A000000000000000 = ⟨three, { pe := true }, true⟩ := by decide

theorem test_U11_fscale :
    (after (exec .fscale (stack [one, 0x4000ECCCCCCCCCCCCCCD]))).reg 6 = 0x40028000000000000000 := by decide

theorem test_U14_fxtract :
    let t := after (exec .fxtract (stack [0x4002A000000000000000]))
    t.reg 7 = three ∧ t.reg 6 = 0x3FFFA000000000000000 := by decide

theorem test_U16_fprem :
    let t := after (exec .fprem (stack [0x4001E000000000000000, three]))
    t.reg 6 = one ∧ c320 t.sw = (true, false, false) ∧ c1Of t.sw = false := by decide

theorem test_U22_fprem1 :
    let t := after (exec .fprem1 (stack [0x40028000000000000000, three]))
    t.reg 6 = minusOne ∧ c320 t.sw = (true, false, false) ∧ c1Of t.sw = true := by decide

/-- R300: an infinite dividend is an invalid operation before the divisor's NaN counts. -/
theorem test_fprem_infinity_by_nan :
    remOutcome false (ctx 0x037F) 0 plusInf 0x7FFFC000000000000000 = ⟨realIndefinite, { ie := true }, { c2 := some false }⟩ := by decide

/-! ## Transcendental instructions, exact cases (R307 to R314) -/

theorem test_T2_f2xm1 : (after (exec .f2xm1 (stack [minusOne]))).reg 7 = 0xBFFE8000000000000000 := by decide

theorem test_T5_fyl2x : (after (exec .fyl2x (stack [0x40028000000000000000, two]))).reg 7 = 0x4001C000000000000000 := by decide

theorem test_T7_fyl2xp1 : (after (exec .fyl2xp1 (stack [0, three]))).reg 7 = 0 := by decide

theorem test_T8_fptan : let t := after (exec .fptan (stack [0]))
    t.reg 7 = 0 ∧ t.reg 6 = one := by decide

theorem test_T9_fpatan : (after (exec .fpatan (stack [one, 0]))).reg 7 = 0 := by decide

theorem test_T11_fsin : (after (exec .fsin (stack [minusZero]))).reg 7 = minusZero := by decide

theorem test_T13_fcos : (after (exec .fcos (stack [0]))).reg 7 = one := by decide

theorem test_T14_fsincos : let t := after (exec .fsincos (stack [0]))
    t.reg 7 = 0 ∧ t.reg 6 = one := by decide

theorem test_T15_fsincos_range : (after (exec .fsincos (stack [huge]))).reg 7 = huge := by decide

/-! ## Compares and FXAM (R320 to R341) -/

theorem test_C1_fcom_m32 :
    c320 (after (exec (.fcomM32fp at100) (holding (stack [one]) 4 0x40000000))).sw = (false, false, true) := by decide

theorem test_C2_fcom_st : c320 (after (exec (.fcomSt 1) (stack [two, one]))).sw = (false, false, false) := by decide

theorem test_C3_fcomp_st : c320 (after (exec (.fcompSt 1) (stack [0, minusZero]))).sw = (true, false, false) := by decide

theorem test_C4_fcom_qnan : compareResult true (.reg one) (.reg realIndefinite) = (.unordered, { ie := true }) := by decide

theorem test_C5_fucom_qnan : compareResult false (.reg one) (.reg realIndefinite) = (.unordered, Exc.clear) := by decide

theorem test_C7_fcompp :
    let t := after (exec .fcompp (stack [minusOne, 0]))
    c320 t.sw = (false, false, true) ∧ t.top = 0 ∧ t.tag 6 = .empty ∧ t.tag 7 = .empty := by decide

theorem test_C9_fcomp_suppressed :
    (after (exec (.fcompSt 1) { stack [one, realIndefinite] with cw := 0x037E })).sw = 0xB081 := by decide

theorem test_C10_fcomi :
    (after (exec (.fcomi 1) { stack [one, two] with eflags := 0xFFFFFFFF })).eflags = 0xFFFFF72B := by decide

theorem test_C11_fcomip : (after (exec (.fcomip 1) (stack [two, two]))).eflags = 0x42 := by decide

theorem test_C12_fucomi : (after (exec (.fucomi 1) (stack [one, realIndefinite]))).eflags = 0x47 := by decide

theorem test_R334_fucomip : (after (exec (.fucomip 1) { stack [three, two] with eflags := 0x47 })).eflags = 2 := by decide

theorem test_C13_ftst : c320 (after (exec .ftst (stack [minusZero]))).sw = (true, false, false) := by decide

theorem test_C15_ficom_m16 :
    c320 (after (exec (.ficomM16int at100) (holding (stack [0x4001A000000000000000]) 2 5))).sw = (true, false, false) := by decide

theorem test_C16_ficomp_m32 :
    c320 (after (exec (.ficompM32int at100) (holding (stack [0x4001A000000000000000]) 4 6))).sw = (false, false, true) := by decide

theorem test_C8_fucompp_empty : c320 (after (exec .fucompp (stack [one]))).sw = (true, true, true) := by decide

theorem test_X1_fxam_inf : c320 (after (exec .fxam (stack [plusInf]))).sw = (false, true, true) := by decide

theorem test_X8_fxam_empty : (after (exec .fxam { base with regs := Vector.replicate 8 minusOne })).sw = 0x4300 := by decide

/-! ## Stack management and control (R350 to R387) -/

theorem test_K10_fxch : let t := after (exec (.fxchSt 1) (stack [one, two]))
    t.reg 6 = two ∧ t.reg 7 = one := by decide

theorem test_K11_fxch_empty :
    let t := after (exec (.fxchSt 1) (stack [one]))
    t.reg 7 = realIndefinite ∧ t.reg 0 = one := by decide

theorem test_K15_ffree :
    let t := after (exec (.ffree 2) (stack [one, two, three]))
    t.tag 7 = .empty ∧ t.reg 7 = three := by decide

theorem test_K16_ffreep :
    let t := after (exec (.ffreep 1) (stack [one, two]))
    t.tag 6 = .empty ∧ t.tag 7 = .empty := by decide

theorem test_K17_fnop :
    let t := after (step (base.withFetchWord 16 0xD9D0))
    t.fip = 0xFFF0 ∧ t.fcs = 0xF000 ∧ t.fop = 0x1D0 := by decide

theorem test_W1_fnstcw : readLE (after (exec (.fnstcw at100) base)).mem 0x100 2 = 0x037F := by decide

theorem test_W3_fldcw : (after (exec (.fldcw at100) (holding base 2 0xFFFF))).cw = 0x1F7F := by decide

theorem test_W6_fnstsw :
    readLE (after (exec (.fnstswM2byte at100) { base with sw := 0x3800 })).mem 0x100 2 = 0x3800 := by decide

theorem test_W7_fnstsw_ax :
    (after (exec .fnstswAx { base with sw := 0x4100, gpr := { Gpr.reset with eax := 0xABCD0000 } })).gpr.eax = 0xABCD4100 := by decide

theorem test_W9_fninit :
    let t := after (exec .fninit (pending (stack [one])))
    t.cw = 0x037F ∧ t.sw = 0 ∧ t.tagWord = 0xFFFF ∧ t.reg 7 = one := by decide

/-- The fields of V-W11 to V-W13. -/
def environment (mode : CpuMode) (op : OpSize) : State :=
  { stack [one] with
    cw := 0x0372, fip := 0x0123, fcs := 0x1000, fop := 0x1E8, fdp := 0x0456, fds := 0x2000, mode := mode, inp := ⟨false, none, op⟩ }

theorem test_W11_fnstenv_real16 :
    readLE (after (exec (.fnstenv at100) (environment .real .o16))).mem 0x100 14 = 0x2000045611E801233FFF38000372 := by decide

theorem test_W12_fnstenv_prot16 :
    readLE (after (exec (.fnstenv at100) (environment .prot .o16))).mem 0x100 14 = 0x2000045610000123_3FFF38000372 := by decide

theorem test_W13_fnstenv_prot32 :
    readLE (after (exec (.fnstenv at100) (environment .prot .o32))).mem 0x100 28 =
      0xFFFF20000000045601E8100000000123FFFF3FFFFFFF3800FFFF0372 := by decide

theorem test_W14_fldenv_real16 :
    let t := after (exec (.fldenv at100) (holding base 14 0x2000045611E801233FFF38000372))
    t.cw = 0x0372 ∧ t.sw = 0x3800 ∧ t.tagWord = 0x7FFF ∧ t.fip = 0x10123 ∧ t.fcs = 0 ∧ t.fop = 0x1E8 ∧ t.fdp = 0x20456 ∧
      t.fds = 0 := by decide

theorem test_W15_fnsave :
    let t := after (exec (.fnsave at100) (stack [one]))
    readLE t.mem 0x10E 10 = 0x3FFF8000000000000000 ∧ t.tagWord = 0xFFFF := by decide

/-- R387, on the image of V-W15. -/
theorem test_frstor :
    let t := after (exec (.frstor at100) { base with mem := (after (exec (.fnsave at100) (stack [one]))).mem })
    t.reg 7 = one ∧ t.top = 7 ∧ t.tagWord = 0x3FFF := by decide

/-- V-R1. -/
theorem test_reset_values : State.reset.cw = 0x0040 ∧ State.reset.tagWord = 0x5555 ∧ State.reset.sw = 0 := by decide

/-! ## Witnesses: for each statement with hypotheses, states and operands that meet them, one for each of its cases -/

/-- An exponent of 2^127: a quotient by 3 beyond 2^64. -/
def vast : F80 := 0x407F8000000000000000

/-- The state with the bytes of a list where the next instruction is fetched. -/
def code (s : State) (bs : List Byte) : State := s.place bs

/-- Of Examine, Exchange, StackManagement, ControlNoEffect, StatusToAx, ClearsExceptions and Initialises; the second with an
exception pending. -/
theorem witness_ready : Ready .waiting base ∧ Ready .nonwaiting (pending base) := by unfold Ready; decide

theorem witness_DecodeEncode :
    (Instr.fldM32fp (.sib 3 .esp .ebp (.d8 0xFF))).wf = true ∧ (Instr.fldM32fp (.sib 3 .esp .ebp (.d8 0xFF))).fits .a32 = true ∧
      (Instr.fbstp (.ind16 .bp (.d16 0))).wf = true ∧ (Instr.fbstp (.ind16 .bp (.d16 0))).fits .a16 = true := by
  decide

theorem witness_EncodeDecode : ∃ d, decode .a16 [0xD9, 0x06, 0xFF, 0xFF, 0x00] = .ok d := ⟨⟨.fldM32fp (.abs16 0xFFFF), 4⟩, by decide⟩

theorem witness_UndefinedForms :
    (isEscape 0xD9 = true ∧ modOf 0x0F ≠ 3 ∧ memOp .a16 (modOf 0x0F) (rmOf 0x0F) [] = some (.ind16 .bx .none, [])) ∧
      isEscape 0xD9 = true ∧ modOf 0xD0 = 3 ∧ modOf 0xD1 = 3 ∧ modOf 0xD7 = 3 ∧ modOf 0xD8 = 3 := by
  decide

theorem inv_base : Inv base := by
  constructor
  · decide
  · decide
  · decide
  · unfold State.tag State.reg; decide
  · decide
  · decide

/-- Of ResetInv: a state that holds memory and an IRQ 13 request. -/
theorem witness_ResetInv : Inv { base with mem := [(0x100, 7)], irq13 := 1 } :=
  ⟨inv_base.summary, inv_base.busy, inv_base.control, inv_base.tags, inv_base.op, by decide⟩

theorem witness_StepKeepsInv : Inv (code base [0xD9, 0xD0]) ∧ ∃ t, step (code base [0xD9, 0xD0]) = .next t :=
  ⟨⟨inv_base.summary, inv_base.busy, inv_base.control, inv_base.tags, inv_base.op, by decide⟩, _, rfl⟩

theorem witness_StepRunsDecoded :
    let s := code base [0x66, 0xD9, 0xD0]
    s.cpuFault = none ∧ s.mfDue = false ∧ (takePrefixes {} s.fetch).1 = ⟨false, none, true, false, 1⟩ ∧
      decode (Prefixes.addr ⟨false, none, true, false, 1⟩ s.code32) (takePrefixes {} s.fetch).2 = .ok ⟨.fnop, 2⟩ ∧
      available s.params .fnop = true := by
  decide

theorem witness_StepMovesEip :
    let s := code base [0xD9, 0xD0]
    s.cpuFault = none ∧ s.mfDue = false ∧ s.plan = .run .fnop ⟨false, none, .o16⟩ (some 0x1D0) 2 ∧ ∃ t, step s = .next t :=
  ⟨rfl, rfl, by decide, _, rfl⟩

theorem witness_RecordsOp :
    (let s := code base [0xD9, 0xD0];
      s.cpuFault = none ∧ s.mfDue = false ∧ (∃ rest, takePrefixes {} s.fetch = (⟨false, none, false, false, 0⟩, 0xD9 :: 0xD0 :: rest)) ∧
        isEscape 0xD9 = true ∧ ∃ t, step s = .next t) ∧
      let s := code base [0x9B];
      s.cpuFault = none ∧ s.mfDue = false ∧ (∃ rest, takePrefixes {} s.fetch = (⟨false, none, false, false, 0⟩, 0x9B :: rest)) ∧
        ∃ t, step s = .next t :=
  ⟨⟨rfl, rfl, ⟨_, rfl⟩, rfl, _, rfl⟩, rfl, rfl, ⟨_, rfl⟩, _, rfl⟩

theorem witness_DeferredRequest :
    let s := { base with neReq := true }
    s.cpuFault = none ∧ s.neReq = true ∧ s.params.mfDelivery = .nextBoundary ∧
      (s.raiseCpu .pageFault).cpuFault = some ⟨.pageFault, 0xF000, 0xFFF0⟩ := by
  decide

/-- The bytes D9 D7, an undefined encoding. -/
def undefinedCode (b : List (Word16 × UndefBehaviour)) : State :=
  code { base with params := { Params.taken with undefEsc := b } } [0xD9, 0xD7]

/-- R415: LOCK before an undefined encoding raises #UD, though UNDEF_ESC = REFUSE. -/
theorem test_lock_undefined :
    (after (step (code base [0xF0, 0xD9, 0xD7]))).cpuFault = some ⟨.invalidOpcode, 0xF000, 0xFFF0⟩ := by decide

/-- R126: D9 D7 as FLD ST(i) with i = 7, and D9 0F (mod 0, rm 7, [BX]) as FLDCW. -/
theorem test_alias_operands :
    aliasOf .a16 0xD7 [] (.fldSt 0) = .fldSt 7 ∧ aliasOf .a16 0x0F [] (.fldcw at100) = .fldcw (.ind16 .bx .none) ∧
      aliasOf .a16 0xD7 [] (.fldcw at100) = .fldcw at100 ∧ aliasOf .a16 0xD7 [] .fnop = .fnop := by decide

/-- Each behaviour of D9 D7, and a LOCK prefix. -/
theorem witness_UndefinedEncodings :
    (∀ b, (undefinedCode b).cpuFault = none ∧ (undefinedCode b).mfDue = false ∧ (undefinedCode b).params.undefEsc = b) ∧
      (∃ rest, takePrefixes {} (undefinedCode []).fetch = (⟨false, none, false, false, 0⟩, 0xD9 :: 0xD7 :: rest)) ∧
      (∃ rest, takePrefixes {} (code base [0xF0, 0xD9, 0xD7]).fetch = (⟨true, none, false, false, 1⟩, 0xD9 :: 0xD7 :: rest)) ∧
      decode .a16 [0xD9, 0xD7] = .error (.undefined 0xD9 0xD7 2) ∧
      ∀ b ∈ [UndefBehaviour.nop, .ud, .refuse, .likeRow (.fldSt 0), .likeRow (.fldcw at100), .likeRow .wait],
        ([(0xD9D7, b)] : List (Word16 × UndefBehaviour)).lookup ((0xD9 : Byte) ++ (0xD7 : Byte)) = some b :=
  ⟨fun _ => ⟨rfl, rfl, rfl⟩, ⟨_, rfl⟩, ⟨_, rfl⟩, by decide, by decide⟩

/-- A memory row on a memory form, D9 0F. -/
theorem witness_UndefinedEncodings_memory :
    opcodeOf (.fldcw at100) = .mem 1 5 at100 ∧ modOf 0x0F ≠ 3 ∧ memOp .a16 (modOf 0x0F) (rmOf 0x0F) [] = some (.ind16 .bx .none, []) := by
  decide

theorem witness_UndefinedEncodings_unavailable :
    decode .a16 [0xDA, 0xC1] = .ok ⟨.fcmovb 1, 2⟩ ∧ available { Params.taken with p6Ext := false } (.fcmovb 1) = false := by
  decide

theorem witness_LockFaults : Instr.fninit ≠ .wait ∧ ({ base with inp := ⟨true, none, .o16⟩ }).inp.lock = true := by decide

theorem witness_DeviceNotAvailable :
    Instr.fninit ≠ .wait ∧ base.inp.lock = false ∧ ({ base with cr0 := 4 }).cr0 &&& 0xC ≠ 0 ∧ ({ base with cr0 := 8 }).cr0 &&& 0xC ≠ 0 := by
  decide

theorem witness_PendingReported :
    let s := pending base
    Instr.fld1 ≠ .wait ∧ isNonwaiting .fld1 = false ∧ s.inp.lock = false ∧ s.cr0 &&& 0xC = 0 ∧ s.params.softfloat = true ∧
      swES s.sw = true ∧ s.cr0 &&& 0x20 = 0 ∧ ({ s with cr0 := 0x20 }).cr0 &&& 0x20 ≠ 0 := by
  decide

theorem witness_NonwaitingNeverReports :
    let s := pending base
    isNonwaiting .fnclex = true ∧ (∃ t, exec .fnclex s = .next t) ∧ s.inp.lock = false ∧ s.cr0 &&& 0xC = 0 ∧
      s.params.softfloat = true ∧ s.faultMap = [] :=
  ⟨rfl, ⟨_, rfl⟩, rfl, rfl, rfl, rfl⟩

theorem witness_EveryInstructionRuns :
    base.params.softfloat = true ∧ Instr.fnop ≠ .wait ∧ ({ Params.taken with softfloat := false }).softfloat = false ∧
      base.inp.lock = false ∧ base.cr0 &&& 0xC = 0 := by
  decide

theorem witness_WaitTable :
    ({ base with cr0 := 0xA }).cr0 &&& 0xA = 0xA ∧ ({ base with cr0 := 0x28 }).cr0 &&& 0xA ≠ 0xA ∧ base.params.softfloat = true ∧
      swES (pending base).sw = true ∧ ({ base with cr0 := 0x28 }).cr0 &&& 0x20 ≠ 0 ∧ base.cr0 &&& 0xA ≠ 0xA ∧
      base.cr0 &&& 0x20 = 0 ∧ swES base.sw = false ∧ ({ Params.taken with softfloat := false }).softfloat = false := by
  decide

theorem witness_CpuStateUntouched : ∃ t, exec .fld1 { base with neReq := true } = .next t := ⟨_, rfl⟩

theorem witness_Writers :
    (∃ t, exec .fnstswAx base = .next t) ∧ (∃ t, exec (.fldSt 1) (stack [one, two]) = .next t) ∧
      ∃ t, exec (.fcomi 1) (stack [one, two]) = .next t :=
  ⟨⟨_, rfl⟩, ⟨_, rfl⟩, _, rfl⟩

theorem witness_ControlWordWriters :
    (∀ i ∈ [Instr.fldcw at100, .fldenv at100, .frstor at100], ∃ t, exec i base = .next t ∧ t.completion = .normal) ∧
      (∃ t, exec .fninit base = .next t) ∧ cwStored base.cw = base.cw ∧ writesCw .fld1 = false ∧ ∃ t, exec .fld1 base = .next t := by
  refine ⟨?_, ⟨_, rfl⟩, by decide, rfl, _, rfl⟩
  simp only [List.mem_cons, List.not_mem_nil, or_false]
  rintro i (rfl | rfl | rfl) <;> exact ⟨_, rfl, rfl⟩

theorem witness_StickyFlags :
    let s := { base with sw := 0x0041 }
    clearsFlags .fld1 = false ∧ (∃ t, exec .fld1 s = .next t) ∧ s.sw.getLsbD 0 = true ∧ s.sw.getLsbD 6 = true :=
  ⟨rfl, ⟨_, rfl⟩, rfl, rfl⟩

theorem witness_PointersKept :
    ∀ i ∈ [Instr.fnclex, .fldcw at100, .fnstcw at100, .fnstswM2byte at100, .fnstswAx, .fnstenv at100, .fneni, .fndisi, .fnsetpm,
      .wait], ∃ t, exec i base = .next t := by
  simp only [List.mem_cons, List.not_mem_nil, or_false]
  rintro i (rfl | rfl | rfl | rfl | rfl | rfl | rfl | rfl | rfl | rfl) <;> exact ⟨_, rfl⟩

theorem witness_MemoryReadsBack :
    Memory.wf base.mem = true ∧ (∃ mem, base.memWrite 0xFFFFFFFB 10 (2 ^ 80 - 1) = .ok mem) ∧ ∃ mem, base.memWrite 0 0 7 = .ok mem :=
  ⟨by decide, ⟨_, rfl⟩, _, rfl⟩

theorem witness_SourceFaults :
    Ready .waiting (faulty base) ∧ sourceOf (faulty base) (.fldM80fp at100) = some (at100, 10) ∧
      sourceOf (faulty base) (.frstor at100) = some (at100, 94) ∧
      accessFault (faulty base).faultMap false ((faulty base).addr at100) 10 = some .pageFault := by
  unfold Ready; decide

theorem witness_Loads :
    (∀ f ∈ loadForms, Readable base at100 f.bytes ∧ Readable (stack [one, one, one, one, one, one, one, one]) at100 f.bytes) ∧
      Ready .waiting base ∧ base.isEmpty 7 = true ∧ (stack [one, one, one, one, one, one, one, one]).isEmpty 7 = false ∧
      (stack [one]).isEmpty 7 = true ∧ (stack [one]).isEmpty 0 = false ∧ (stack [one]).isEmpty 3 = true := by
  refine ⟨?_, by unfold Ready; decide⟩
  simp only [loadForms, List.mem_cons, List.not_mem_nil, or_false]
  rintro f (rfl | rfl | rfl | rfl | rfl | rfl | rfl) <;> exact ⟨rfl, rfl⟩

theorem witness_Constants :
    Ready .waiting base ∧ base.isEmpty 7 = true ∧ (stack [one, one, one, one, one, one, one, one]).isEmpty 7 = false := by
  unfold Ready; decide

/-- A store of 1.0 goes ahead; a store of an empty ST(0) with IM = 0, and a store of 2^128 to m32fp with OM = 0, do not. -/
theorem witness_MemoryStores :
    (∀ f ∈ storeForms, f.goesAhead (stack [one]) ∧ ¬f.goesAhead (unmasked base) ∧ Writable (stack [one]) at100 f.bytes) ∧
      Ready .waiting (stack [one]) ∧ Memory.wf (stack [one]).mem = true ∧
      accessFault (faulty (stack [one])).faultMap true ((faulty (stack [one])).addr at100) 4 = some .pageFault ∧
      ((storeFp 0x0377 .afterRounding .m32 0x407F8000000000000000).exc.unmasked 0x0377).oe = true := by
  refine ⟨?_, by unfold Ready; decide⟩
  unfold StoreForm.goesAhead StoreForm.result Writable
  simp only [storeForms, List.mem_cons, List.not_mem_nil, or_false]
  rintro f (rfl | rfl | rfl | rfl | rfl | rfl | rfl | rfl | rfl | rfl | rfl) <;> decide

theorem witness_RegisterStores : Ready .waiting base ∧ base.isEmpty 0 = true ∧ (stack [one]).isEmpty 0 = false := by
  unfold Ready; decide

theorem witness_ConditionalMoves :
    Ready .waiting (stack [one, two]) ∧ ((stack [one]).isEmpty 0 || (stack [one]).isEmpty 1) = true ∧
      ((stack [one, two]).isEmpty 0 || (stack [one, two]).isEmpty 1) = false := by
  unfold Ready; decide

/-- Of RegisterArithmetic, UnaryArithmetic and TwoOperandTranscendentals: full and empty operands. -/
theorem witness_arithmetic_operands :
    Ready .waiting (stack [one, two]) ∧ (stack [one]).isEmpty 0 = false ∧ (stack [one]).isEmpty 1 = true ∧
      (stack [one, two]).isEmpty 1 = false := by
  unfold Ready; decide

theorem witness_MemoryArithmetic :
    (∀ f ∈ memArithForms, Readable (stack [one]) at100 f.bytes) ∧ Ready .waiting (stack [one]) ∧ (stack [one]).isEmpty 0 = false ∧
      base.isEmpty 0 = true := by
  refine ⟨?_, by unfold Ready; decide⟩
  unfold Readable
  decide

/-- Of the two clauses of every Completes and CompletesMem: all masked, and a signalling NaN with IM = 0. -/
theorem witness_Undisturbed :
    Undisturbed (stack [one, two]) (arithResult .add (ctx 0x037F) (.reg one) (.reg two)).exc ∧
      ¬Undisturbed (unmasked (stack [signalling, two])) (arithResult .add (ctx 0x0340) (.reg signalling) (.reg two)).exc := by
  unfold Undisturbed; decide

theorem witness_Extract :
    Ready .waiting base ∧ base.isEmpty 0 = true ∧ (stack [one]).isEmpty 0 = false ∧ (stack [one]).isEmpty 7 = true ∧
      (stack [one, one, one, one, one, one, one, one]).isEmpty 7 = false := by
  unfold Ready; decide

theorem witness_PartialRemainders :
    let s := stack [0x4001E000000000000000, three]
    Ready .waiting s ∧ s.isEmpty 0 = false ∧ s.isEmpty 1 = false ∧ isFinite (s.st 0) = true ∧ isZero (s.st 0) = false ∧
      isFinite three = true ∧ isZero three = false ∧
      (reduce false (fpremN (s.st 0) three) (valOf (s.st 0)) (valOf three)).quot = some 2 ∧
      (reduce true (fpremN vast three) (valOf vast) (valOf three)).quot = none ∧ isFinite vast = true := by
  unfold Ready; decide

theorem witness_TrigOutOfRange :
    let s := stack [huge]
    Ready .waiting s ∧ s.isEmpty 0 = false ∧ s.isEmpty 7 = true ∧ beyondTrigRange (s.st 0) ∧ expOf huge = 0x403E := by
  unfold Ready beyondTrigRange; decide

/-- Of SineCosine and TangentSineCosine: the largest operand in range, and an infinity, which is not finite. -/
theorem witness_trig_in_range :
    let s := stack [0x403DFFFFFFFFFFFFFFFF]
    Ready .waiting s ∧ base.isEmpty 0 = true ∧ s.isEmpty 0 = false ∧ s.isEmpty 7 = true ∧ ¬beyondTrigRange (s.st 0) ∧
      ¬beyondTrigRange plusInf ∧ ¬beyondTrigRange one ∧ isFinite one = true ∧ isZero one = false ∧ (stack [one, one, one, one, one, one, one, one]).isEmpty 7 = false := by
  unfold Ready beyondTrigRange; decide

/-- Of RegisterCompares and EflagsCompares. -/
theorem witness_RegisterCompares :
    Ready .waiting (stack [one, two]) ∧ Undisturbed (stack [one]) Exc.stackFault ∧ ¬Undisturbed (unmasked (stack [one])) Exc.stackFault := by
  unfold Ready Undisturbed; decide

theorem witness_MemoryCompares :
    (∀ x ∈ memCompareForms, Readable (stack [one]) at100 x.2.1) ∧ Ready .waiting (stack [one]) := by
  refine ⟨?_, by unfold Ready; decide⟩
  unfold Readable
  decide

theorem witness_StoresControlAndStatus :
    Ready .nonwaiting base ∧ Memory.wf base.mem = true ∧ Writable base at100 2 ∧
      accessFault (faulty base).faultMap true ((faulty base).addr at100) 2 = some .pageFault := by
  unfold Ready Writable; decide

theorem witness_LoadsControlWord : Ready .waiting base ∧ Readable base at100 2 := by unfold Ready Readable; decide

theorem witness_StoresEnvironment :
    Ready .nonwaiting base ∧ Memory.wf base.mem = true ∧ Writable base at100 (imageSize base true) ∧
      Writable base at100 (imageSize base false) ∧
      accessFault (faulty base).faultMap true ((faulty base).addr at100) (imageSize (faulty base) true) = some .pageFault := by
  unfold Ready Writable; decide

theorem witness_LoadsEnvironment :
    Ready .waiting base ∧ Readable base at100 (imageSize base true) ∧ Readable base at100 (imageSize base false) := by
  unfold Ready Readable; decide

theorem witness_SaveRestores :
    let s := { base with mode := .prot, inp := ⟨false, none, .o32⟩ }
    Inv s ∧ Ready .nonwaiting s ∧ Writable s at100 (imageSize s true) ∧ Readable s at100 (imageSize s true) ∧
      s.inp.opSize = .o32 ∧ s.mode = .prot := by
  refine ⟨⟨inv_base.summary, inv_base.busy, inv_base.control, inv_base.tags, inv_base.op, inv_base.memory⟩, ?_⟩
  unfold Ready Writable Readable; decide

/-- A sticky magnitude of 31 bits rounded to 24. -/
theorem witness_RoundsAndDelivers_rounding :
    let f : Fmt := ⟨24, -126, 127⟩
    let x : Mag := ⟨2 ^ 30 + 1, 0, true⟩
    1 ≤ f.p ∧ x.m ≠ 0 ∧ x.Stands (2 ^ 30 + 3 / 2) ∧ (x.sticky = true → x.e < (roundTo f .rn false x).g) := by
  refine ⟨by decide, by decide, ?_, fun _ => by decide⟩
  norm_num [Mag.Stands]

/-- Overflow begins at 2^128 in m32fp, where 2^128 - 2^104 does not. -/
theorem witness_RoundsAndDelivers_overflow :
    let f : Fmt := ⟨24, -126, 127⟩
    (⟨1, 128, false⟩ : Mag).Stands (2 ^ 128) ∧ roundTo f .rn false ⟨1, 128, false⟩ = ⟨2 ^ 23, 105, false, false⟩ ∧
      (2 : ℝ) ^ (f.emax + 1) ≤ (2 ^ 23 : Nat) * (2 : ℝ) ^ (105 : ℤ) ∧
      roundTo f .rn false ⟨2 ^ 24 - 1, 104, false⟩ = ⟨2 ^ 24 - 1, 104, false, false⟩ ∧
      ((2 ^ 24 - 1 : Nat) : ℝ) * (2 : ℝ) ^ (104 : ℤ) < (2 : ℝ) ^ (f.emax + 1) ∧
      (0x0377 : Word16).getLsbD 3 = false ∧ (0x037F : Word16).getLsbD 3 = true ∧ rcOf 0x037F = .rn ∧ rcOf 0x0F7F = .rz := by
  refine ⟨by norm_num [Mag.Stands, Scaled], by decide, by norm_num, by decide, by norm_num, by decide⟩

/-- 2^-127 is tiny in m32fp under both kinds of tininess, and 2^-126 under neither. -/
theorem witness_RoundsAndDelivers_tiny :
    let f : Fmt := ⟨24, -126, 127⟩
    roundUnbounded f .rn false ⟨1, -127, false⟩ = ⟨2 ^ 23, -150, false, false⟩ ∧
      (∀ t, Tiny t f ((2 : ℝ) ^ (-127 : ℤ)) ⟨2 ^ 23, -150, false, false⟩) ∧
      roundUnbounded f .rn false ⟨1, -126, false⟩ = ⟨2 ^ 23, -149, false, false⟩ ∧
      (∀ t, ¬Tiny t f ((2 : ℝ) ^ (-126 : ℤ)) ⟨2 ^ 23, -149, false, false⟩) ∧ (0x036F : Word16).getLsbD 4 = false := by
  refine ⟨by decide, ?_, by decide, ?_, by decide⟩ <;> intro t <;> cases t <;> norm_num [Tiny]

theorem witness_RoundsAndDelivers_pack :
    (2 ^ 64 ≤ 2 ^ 64 ∧ (-16445 : Int) ≤ 16319 ∧ floorLog2 (2 ^ 64) 16319 = 16383) ∧ floorLog2 1 (-16445) ≤ 16383 := by decide

/-- A register result that is finite, one that overflows to infinity, and one that stays out of range when its exponent is
adjusted. -/
theorem witness_RoundsAndDelivers_register :
    (deliver (ctx 0x037F).round false ⟨1, 0, false⟩).out = .finite (2 ^ 63) (-63) ∧
      (deliver (ctx 0x037F).round true ⟨1, 16384, false⟩).out = .infinity ∧
      (deliver (ctx 0x0377).round false ⟨1, 16384 + 24576, false⟩).out = .unstated := by
  decide

/-- A pattern holds the value its fields give. -/
theorem holds_of {v : F80} {neg : Bool} {m : Nat} {e : Int} {r : ℝ} (hf : isFinite v = true) (hv : valOf v = ⟨neg, m, e⟩)
    (hr : r = if neg then -((m : ℝ) * (2 : ℝ) ^ e) else (m : ℝ) * (2 : ℝ) ^ e) : Holds v r := by
  refine ⟨hf, _, rfl, ?_⟩
  rw [hv, hr]

theorem holds_one : Holds one 1 := holds_of (neg := false) (m := 2 ^ 63) (e := -63) (by decide) (by decide) (by norm_num)

theorem holds_two : Holds two 2 := holds_of (neg := false) (m := 2 ^ 63) (e := -62) (by decide) (by decide) (by norm_num)

theorem holds_half : Holds 0x3FFE8000000000000000 (1 / 2) :=
  holds_of (neg := false) (m := 2 ^ 63) (e := -64) (by decide) (by decide) (by norm_num)

theorem holds_quarter : Holds 0xBFFD8000000000000000 (-(1 / 4)) :=
  holds_of (neg := true) (m := 2 ^ 63) (e := -65) (by decide) (by decide) (by norm_num)

/-- One pattern of each class, for the clauses of UnaryArithmetic, Extract, PartialRemainders, TwoOperandTranscendentals,
SineCosine, TangentSineCosine, ConversionsRoundTrip, ExactCompare and OperandClasses. -/
theorem witness_classes :
    isUnsupported 0x7FFF0000000000000000 = true ∧ isNan signalling = true ∧ isSnan signalling = true ∧
      isUnsupported signalling = false ∧ isInf signalling = false ∧ isZero minusZero = true ∧ isFinite minusZero = true ∧
      signOf minusZero = true ∧ isDenormal 1 = true ∧ isFinite 1 = true ∧ isZero 1 = false ∧ isFinite one = true ∧
      isZero one = false ∧ isNan one = false ∧ isInf one = false ∧ signOf minusOne = true ∧ isInf plusInf = true ∧
      infinityOf false = plusInf ∧ isInf (infinityOf true) = true ∧ isFinite plusInf = false := by
  decide

/-- Of TwoOperandTranscendentals: operands of both sides of 1, and of both sides of 1 - √2/2. -/
theorem witness_TwoOperandTranscendentals :
    Holds 0x3FFE8000000000000000 (1 / 2) ∧ Holds two 2 ∧ Holds one 1 ∧ Holds 0xBFFD8000000000000000 (-(1 / 4)) ∧
      |(-(1 / 4) : ℝ)| < 1 - Real.sqrt 2 / 2 ∧ 1 - Real.sqrt 2 / 2 ≤ |(1 / 2 : ℝ)| ∧ (ctx 0x037F).p = 64 := by
  have h1 : Real.sqrt 2 < 3 / 2 := (Real.sqrt_lt' (by norm_num)).mpr (by norm_num)
  have h2 : 1 ≤ Real.sqrt 2 := Real.one_le_sqrt.mpr (by norm_num)
  refine ⟨holds_half, holds_two, holds_one, holds_quarter, ?_, ?_, by decide⟩
  · rw [abs_neg, abs_of_pos (by norm_num)]; linarith
  · rw [abs_of_pos (by norm_num)]; linarith

/-- Of ExactBeforeRounding and ExactCompare: 3 and -2, and of the exact zeros 2 and -2. -/
theorem witness_values :
    Val.Is ⟨false, 3, 0⟩ 3 ∧ Val.Is ⟨true, 1, 1⟩ (-2) ∧ Val.Is ⟨false, 2, 0⟩ 2 ∧ Val.Is ⟨true, 0, 0⟩ 0 ∧ (3 : ℝ) + -2 ≠ 0 ∧
      (3 : ℝ) * -2 ≠ 0 ∧ (2 : ℝ) + -2 = 0 ∧ (1 : Nat) < 2 ^ 64 ∧ isFinite two = true ∧ isZero two = false ∧ signOf two = false := by
  refine ⟨⟨3, by norm_num [Scaled], by simp⟩, ⟨2, by norm_num [Scaled], by simp⟩, ⟨2, by norm_num [Scaled], by simp⟩,
    ⟨0, by norm_num [Scaled], by simp⟩, by norm_num, by norm_num, by norm_num, by decide⟩

/-- 7 and 3, with D = 1; 2^64 and 1, with D = 64. -/
theorem witness_ExactRemainder :
    Val.Is ⟨false, 7, 0⟩ 7 ∧ Val.Is ⟨false, 3, 0⟩ 3 ∧ Val.Is ⟨false, 1, 64⟩ (2 ^ 64) ∧ Val.Is ⟨false, 1, 0⟩ 1 ∧
      floorLog2 7 0 - floorLog2 3 0 = 1 ∧ floorLog2 1 64 - floorLog2 1 0 = 64 := by
  refine ⟨⟨7, by norm_num [Scaled], by simp⟩, ⟨3, by norm_num [Scaled], by simp⟩, ⟨2 ^ 64, by norm_num [Scaled], by simp⟩,
    ⟨1, by norm_num [Scaled], by simp⟩, by decide, by decide⟩

/-- Of ConversionsRoundTrip: the largest image of each width, decimal digits and an invalid one, and an m32fp infinity, SNaN,
denormal and number. -/
theorem witness_ConversionsRoundTrip :
    2 ^ 64 - 1 < 2 ^ 64 ∧ (List.replicate 18 9).length = 18 ∧ (∀ d ∈ List.replicate 18 9, d ≤ 9) ∧
      (∀ d ∈ List.replicate 18 15, d < 16 ∧ 9 < d) ∧ 0x7FFFFFFF < 2 ^ (8 * MemFp.m32.bytes) ∧
      (0x7F800000 / 2 ^ 23 % 256 = 255 ∧ 0x7F800000 % 2 ^ 23 = 0) ∧ (0x7F800001 / 2 ^ 23 % 256 = 255 ∧ 0x7F800001 % 2 ^ 23 = 1) ∧
      (0x00000001 / 2 ^ 23 % 256 = 0 ∧ 0x3F800000 / 2 ^ 23 % 256 = 127) ∧ (0x037F : Word16).getLsbD 4 = true := by
  decide

/-- RNDINT_RC of 1/2, and values in and out of the range of 16 bits. -/
theorem witness_RoundsInt :
    RoundsInt .rn (1 / 2) 0 ∧ RoundsInt .ru (1 / 2) 1 ∧ (-2 ^ (16 - 1) : ℤ) ≤ 0 ∧ (0 : ℤ) < 2 ^ (16 - 1) ∧ (2 ^ (16 - 1) : ℤ) ≤ 2 ^ 15 ∧
      2 ^ 24 ≤ 2 ^ MemFp.m32.fmt.p ∧ floorLog2 (2 ^ 24) 103 = MemFp.m32.fmt.emax := by
  refine ⟨⟨by norm_num, fun _ => rfl⟩, ?_, by norm_num, by norm_num, by norm_num, by decide, by decide⟩
  show (1 : ℤ) = ⌈(1 / 2 : ℝ)⌉
  norm_num

/-- One NaN; a signalling and a quiet one; two of a kind with equal significands. -/
theorem witness_OperandClasses :
    (isUnsupported one = false ∧ isUnsupported signalling = false ∧ isNan one = false ∧ isNan signalling = true) ∧
      (isSnan signalling = true ∧ isNan realIndefinite = true ∧ isSnan realIndefinite = false) ∧
      isNan 0x7FFFC000000000000000 = true ∧ isSnan 0x7FFFC000000000000000 = isSnan realIndefinite ∧
      manOf (0x7FFFC000000000000000 : F80) = manOf realIndefinite := by
  decide

/-- Of ExactCompare and OperandClasses: a denormal m32fp operand, a signalling one, and the largest finite image. -/
theorem witness_memory_operands :
    0xFFFFFFFF < 2 ^ (8 * MemFp.m32.bytes) ∧ widenFp .m32 1 = ⟨0x3F6A8000000000000000, true⟩ ∧
      isSnan (widenFp .m32 0x7F800001).v = true ∧ isFinite (widenFp .m32 0x7F7FFFFF).v = true ∧
      (widenFp .m32 0x7F7FFFFF).denormal = false := by
  decide

/-- Of RegisterArithmetic: the four codes of CW.PC. -/
theorem witness_precision :
    (0x0040 : Word16).extractLsb' 8 2 = 0b00 ∧ (0x017F : Word16).extractLsb' 8 2 = 0b01 ∧
      (0x027F : Word16).extractLsb' 8 2 = 0b10 ∧ (0x037F : Word16).extractLsb' 8 2 = 0b11 := by
  decide

end Sys2Proof.Tests
end

section
/-! SUPPORT. What the rule of an escape instruction can do, said once: one relation `Effect`, which every rule meets. The
statements about who writes what, and the invariant, are then case analyses of it. -/

namespace Sys2Proof.Machine

/-- The control instructions of spec/46_control.md, none of which updates the pointers (spec/10_state.md R60). -/
def isControl : Instr → Bool
  | .fnstcw _ | .fldcw _ | .fnstswM2byte _ | .fnstswAx | .fnclex | .fninit | .fneni | .fndisi | .fnsetpm | .fnstenv _
  | .fldenv _ | .fnsave _ | .frstor _ => true
  | _ => false

/-- What stands before an instruction's last act: the pointers updated, unless it is a control instruction, then registers
freed and TOP moved. -/
inductive Prepared (i : Instr) (s : State) : State → Prop
  | start : Prepared i s s
  | pointers (hi : isControl i = false) : Prepared i s s.pointers
  | pointersMem (hi : isControl i = false) (m : MemOp) : Prepared i s (s.pointersMem m)
  | free {u : State} (hu : Prepared i s u) (k : BitVec 3) : Prepared i s (u.freeReg k)
  | top {u : State} (hu : Prepared i s u) (t : BitVec 3) : Prepared i s (u.withTop t)

/-- Memory as an instruction leaves it: unchanged, or, by one that stores, in canonical form if it was. -/
def Stored (i : Instr) (s : State) (mem : List Host.Cell) : Prop :=
  mem = s.mem ∨ storesMemory i = true ∧ (Memory.wf s.mem = true → Memory.wf mem = true)

/-- Everything the rule of instruction `i` can make of the state `s`. -/
inductive Effect (s : State) : Instr → State → Prop
  /-- A memory fault is handed over (R85). -/
  | fault {i : Instr} {u : State} {mem : List Host.Cell} (hu : Prepared i s u) (hm : Stored i s mem) (v : CpuVector) :
    Effect s i ({ u with mem := mem }.raiseCpu v)
  /-- COMMIT after its memory write (R190). -/
  | finish {i : Instr} {u : State} {mem : List Host.Cell} (hu : Prepared i s u) (hm : Stored i s mem)
    (hi : writesCw i = false) (c : Commit) (sup : Suppress) (he : c.eflags = none ∨ writesEflags i = true) :
    Effect s i (c.finish sup { u with mem := mem })
  /-- Condition codes are written, perhaps none of them. -/
  | codes {i : Instr} {u : State} {mem : List Host.Cell} (hu : Prepared i s u) (hm : Stored i s mem)
    (hi : writesCw i = false) (c : Codes) (n : Nat) :
    Effect s i { u with mem := mem, sw := writeCodes u.sw c, draws := n }
  | statusToAx : Effect s .fnstswAx (storeAxRule s)
  | clearExceptions : Effect s .fnclex (clearExRule s)
  | loadControl (m : MemOp) : Effect s (.fldcw m) (s.loadCw (BitVec.ofNat 16 (s.operand m 2))).drawCodes
  | initialise : Effect s .fninit s.fninit
  | storeEnv {m : MemOp} {mem : List Host.Cell} (hm : Stored (.fnstenv m) s mem) :
    Effect s (.fnstenv m) (maskAll { s with mem := mem })
  | save {m : MemOp} {mem : List Host.Cell} (hm : Stored (.fnsave m) s mem) :
    Effect s (.fnsave m) { s with mem := mem }.fninit
  | loadEnv {m : MemOp} {x : Env} (hx : x.cw = BitVec.ofNat 16 (s.operand m 2)) : Effect s (.fldenv m) (s.installEnv x)
  | restore {m : MemOp} {x : Env} (hx : x.cw = BitVec.ofNat 16 (s.operand m 2)) (regs : Vector F80 8) :
    Effect s (.frstor m) ({ s with regs := regs }.installEnv x)

/-! ## The shared parts of the rules -/

variable {i : Instr} {s u : State}

/-- The writers of CW are control instructions (R46). -/
theorem writesCw_of_not_control (h : isControl i = false) : writesCw i = false := by
  cases i with
  | fldcw | fldenv | frstor | fninit | fnsave | fnstenv => cases h
  | _ => rfl

/-- Up to an instruction's last act only the tags, SW and the pointers change. -/
theorem Prepared.kept (h : Prepared i s u) :
    u = { s with
      tags := u.tags, sw := u.sw, fip := u.fip, fcs := u.fcs, fop := u.fop, fdp := u.fdp, fds := u.fds } := by
  induction h with
  | start | pointers | pointersMem => rfl
  | free _ k ih => exact congrArg (State.freeReg · k) ih
  | top _ k ih => exact congrArg (State.withTop · k) ih

theorem Prepared.mem (h : Prepared i s u) : u.mem = s.mem := by rw [h.kept]

theorem stored_writeLE (hs : storesMemory i = true) (hu : Prepared i s u) (a : Word32) (n v : Nat) :
    Stored i s (writeLE u.mem a n v) :=
  .inr ⟨hs, fun hw => writeLE_wf n a v (hu.mem ▸ hw)⟩

theorem Effect.fault_kept (hu : Prepared i s u) (v : CpuVector) : Effect s i (u.raiseCpu v) :=
  .fault hu (.inl hu.mem) v

theorem Effect.codes_kept (hu : Prepared i s u) (hi : writesCw i = false) (c : Codes) (n : Nat) :
    Effect s i { u with sw := writeCodes u.sw c, draws := n } :=
  .codes hu (.inl hu.mem) hi c n

/-- A rule that ends in COMMIT. -/
theorem commit_effect (hu : Prepared i s u) (hi : isControl i = false) {c : Commit}
    (hs : c.store = none ∨ storesMemory i = true) (he : c.eflags = none ∨ writesEflags i = true) :
    Effect s i (commit c u) := by
  have hcw := writesCw_of_not_control hi
  have stores {x : Word32 × Nat × Nat} (hd : c.storeDone (c.suppress u.cw) = some x) : storesMemory i = true := by
    refine hs.resolve_left fun hn => ?_
    unfold Commit.storeDone at hd
    rw [hn] at hd
    split at hd <;> simp_all
  rcases commit_cases u c with h | ⟨a, n, v, hd, -, h⟩ | ⟨a, n, v, f, -, -, h⟩ <;> rw [h]
  · exact .finish hu (.inl hu.mem) hcw c _ he
  · exact .finish hu (stored_writeLE (stores hd) hu a n v) hcw c _ he
  · exact .fault_kept hu _

/-- A rule that ends in a COMMIT with no memory write and no EFLAGS. -/
theorem commit_register_effect (hu : Prepared i s u) (hi : isControl i = false) {c : Commit} (hs : c.store = none)
    (he : c.eflags = none) : Effect s i (commit c u) :=
  commit_effect hu hi (.inl hs) (.inl he)

theorem withSource_effect {m : MemOp} {n : Nat} {rule : Nat → State → State}
    (h : ∀ img, Effect s i (rule img (s.pointersMem m))) : Effect s i (withSource m n rule s) := by
  unfold withSource
  split
  · exact .fault_kept .start _
  · exact h _

theorem drawCodes_effect (hu : Prepared i s u) (hi : isControl i = false) : Effect s i u.drawCodes :=
  .codes_kept hu (writesCw_of_not_control hi) _ _

/-! ## Loads, stores and moves -/

theorem pushRule_effect (hu : Prepared i s u) (hi : isControl i = false) (v : F80) (e : Exc) :
    Effect s i (pushRule v e u) := by
  unfold pushRule
  split <;> exact commit_register_effect hu hi rfl rfl

theorem loadStRule_effect (hu : Prepared i s u) (hi : isControl i = false) (k : BitVec 3) :
    Effect s i (loadStRule k u) := by
  unfold loadStRule
  split
  · exact commit_register_effect hu hi rfl rfl
  · exact pushRule_effect hu hi _ _

theorem storeRule_effect (hi : isControl i = false) (hs : storesMemory i = true) (conv : State → F80 → StoreResult)
    (n indefinite : Nat) (pop : Bool) (m : MemOp) : Effect s i (storeRule conv n indefinite pop m s) := by
  unfold storeRule withDest
  dsimp only
  split <;> exact commit_effect (.pointersMem hi m) hi (.inr hs) (.inl rfl)

theorem storeStRule_effect (hu : Prepared i s u) (hi : isControl i = false) (k : BitVec 3) (pop : Bool) :
    Effect s i (storeStRule k pop u) := by
  unfold storeStRule
  split <;> exact commit_register_effect hu hi rfl rfl

theorem fcmovRule_effect (hu : Prepared i s u) (hi : isControl i = false) (c : Cond) (k : BitVec 3) :
    Effect s i (fcmovRule c k u) := by
  unfold fcmovRule
  split <;> exact commit_register_effect hu hi rfl rfl

theorem exchangeRule_effect (hu : Prepared i s u) (hi : isControl i = false) (k : BitVec 3) :
    Effect s i (exchangeRule k u) :=
  commit_register_effect hu hi rfl rfl

theorem moveTopRule_effect (hu : Prepared i s u) (hi : isControl i = false) (d : BitVec 3) :
    Effect s i (moveTopRule d u) :=
  .codes_kept (hu.top _) (writesCw_of_not_control hi) _ _

theorem freeRule_effect (hu : Prepared i s u) (hi : isControl i = false) (k : BitVec 3) : Effect s i (freeRule k u) :=
  drawCodes_effect (hu.free _) hi

theorem freePopRule_effect (hu : Prepared i s u) (hi : isControl i = false) (k : BitVec 3) :
    Effect s i (freePopRule k u) :=
  drawCodes_effect (((hu.free _).free _).top _) hi

/-! ## Arithmetic and compares -/

theorem arithRule_effect (hu : Prepared i s u) (hi : isControl i = false) (k : ArithOp) (reversed empty : Bool)
    (d src : Operand) (dst : BitVec 3) (pop : Bool) : Effect s i (arithRule k reversed empty d src dst pop u) := by
  unfold arithRule
  split <;> exact commit_register_effect hu hi rfl rfl

theorem compareRule_effect (hu : Prepared i s u) (hi : isControl i = false) (empty ordered : Bool) (b : Operand)
    {target : Target} (ht : target = .cc ∨ writesEflags i = true) (pops : List StackOp) :
    Effect s i (compareRule empty ordered b target pops u) := by
  refine commit_effect hu hi (.inl rfl) (ht.imp_left ?_)
  rintro rfl
  rfl

theorem compare_cc_effect (hu : Prepared i s u) (hi : isControl i = false) (empty ordered : Bool) (b : Operand)
    (pops : List StackOp) : Effect s i (compareRule empty ordered b .cc pops u) :=
  compareRule_effect hu hi empty ordered b (.inl rfl) pops

theorem compare_eflags_effect (hu : Prepared i s u) (hi : isControl i = false) (hf : writesEflags i = true)
    (empty ordered : Bool) (b : Operand) (pops : List StackOp) :
    Effect s i (compareRule empty ordered b .eflags pops u) :=
  compareRule_effect hu hi empty ordered b (.inr hf) pops

theorem unaryRule_effect (hu : Prepared i s u) (hi : isControl i = false) (f : NumCtx → F80 → Result)
    (p : State → Nat) : Effect s i (unaryRule f p u) := by
  unfold unaryRule
  split <;> exact commit_register_effect hu hi rfl rfl

theorem binaryRule_effect (hu : Prepared i s u) (hi : isControl i = false) (f : NumCtx → F80 → F80 → Result) :
    Effect s i (binaryRule f u) := by
  unfold binaryRule
  split <;> exact commit_register_effect hu hi rfl rfl

theorem remRule_effect (hu : Prepared i s u) (hi : isControl i = false) (nearest : Bool) :
    Effect s i (remRule nearest u) := by
  unfold remRule
  split <;> exact commit_register_effect hu hi rfl rfl

theorem replacePushFault_effect (hu : Prepared i s u) (hi : isControl i = false) (codes : Bool → Codes) (c1 : Bool) :
    Effect s i (replacePushFault codes c1 u) :=
  commit_register_effect hu hi rfl rfl

theorem xtractRule_effect (hu : Prepared i s u) (hi : isControl i = false) : Effect s i (xtractRule u) := by
  unfold xtractRule
  split
  · exact replacePushFault_effect hu hi _ _
  · split
    · exact commit_register_effect hu hi rfl rfl
    · exact replacePushFault_effect hu hi _ _

/-! ## The transcendental instructions -/

theorem replacePopRule_effect (hu : Prepared i s u) (hi : isControl i = false) (f : NumCtx → F80 → F80 → Result) :
    Effect s i (replacePopRule f u) := by
  unfold replacePopRule
  split <;> exact commit_register_effect hu hi rfl rfl

theorem trigOutOfRange_effect (hu : Prepared i s u) (hi : isControl i = false) : Effect s i (trigOutOfRange u) :=
  .codes_kept hu (writesCw_of_not_control hi) _ _

theorem trigRule_effect (hu : Prepared i s u) (hi : isControl i = false) (f : NumCtx → F80 → Result) :
    Effect s i (trigRule f u) := by
  unfold trigRule
  split
  · exact commit_register_effect hu hi rfl rfl
  · split
    · exact trigOutOfRange_effect hu hi
    · exact commit_register_effect hu hi rfl rfl

theorem trigPairRule_effect (hu : Prepared i s u) (hi : isControl i = false) (f : NumCtx → F80 → PairResult) :
    Effect s i (trigPairRule f u) := by
  unfold trigPairRule
  split
  · exact replacePushFault_effect hu hi _ _
  · split
    · exact replacePushFault_effect hu hi _ _
    · split
      · exact trigOutOfRange_effect hu hi
      · exact commit_register_effect hu hi rfl rfl

/-! ## The control instructions -/

theorem storeWordRule_effect (hi : writesCw i = false) (hs : storesMemory i = true) (value : State → Word16)
    (m : MemOp) : Effect s i (storeWordRule value m s) := by
  unfold storeWordRule
  split
  · exact .fault_kept .start _
  · rename_i mem hw
    obtain ⟨-, rfl⟩ := memWrite_ok hw
    exact .codes .start (stored_writeLE hs .start _ _ _) hi _ _

theorem loadCwRule_effect (m : MemOp) : Effect s (.fldcw m) (loadCwRule m s) := by
  unfold loadCwRule
  split
  · exact .fault_kept .start _
  · rename_i v hr
    obtain ⟨-, rfl⟩ := memRead_ok hr
    exact .loadControl m

/-- An image store ends in a fault, or goes on with memory stored. -/
theorem storeImage_effect (hs : storesMemory i = true) (fields : List Field) (m : MemOp) {after : State → State}
    (h : ∀ mem, Stored i s mem → Effect s i (after { s with mem := mem })) :
    Effect s i (storeImage fields m after s) := by
  have hm : Stored i s (writeFields s.faultMap s.mem (s.addr m) fields).1 :=
    .inr ⟨hs, writeFields_wf s.faultMap (s.addr m) fields⟩
  unfold storeImage
  dsimp only
  split
  · exact .fault .start hm _
  · exact h _ hm

/-- A sequence of reads that succeeds gives what memory holds. -/
theorem readFields_ok {a : Word32} : ∀ {fs : List (Nat × Nat)} {vs : List Nat}, s.readFields a fs = .ok vs →
    vs = fs.map fun f => readLE s.mem (a + BitVec.ofNat 32 f.1) f.2
  | [], _, h => (Except.ok.inj h).symm
  | f :: fs, vs, h => by
    unfold State.readFields at h
    split at h
    · cases h
    · rename_i v hv
      split at h
      · cases h
      · rename_i vs' hvs
        cases h
        rw [List.map_cons, (memRead_ok hv).2, readFields_ok hvs]

/-- The low half of a 32-bit number in memory is the 16-bit number at its address. -/
theorem ofNat_readLE_four (mem : List Host.Cell) (a : Word32) :
    BitVec.ofNat 16 (readLE mem a 4) = BitVec.ofNat 16 (readLE mem a 2) := by
  apply BitVec.eq_of_toNat_eq
  simp only [BitVec.toNat_ofNat, readLE]
  omega

/-- The first field of an environment image is CW, whatever the layout (R86). -/
theorem envOf_cw (l : Layout) (mem : List Host.Cell) (addr : Word32) (b c d e f g : Nat) :
    (envOf l (readLE mem (addr + BitVec.ofNat 32 0) l.width) b c d e f g).cw = BitVec.ofNat 16 (readLE mem addr 2) := by
  rw [BitVec.add_zero]
  cases l
  case prot16 | real16 => rfl
  case prot32 | real32 => exact ofNat_readLE_four mem addr

theorem loadEnvRule_effect (m : MemOp) : Effect s (.fldenv m) (loadEnvRule m s) := by
  unfold loadEnvRule
  split
  · exact .fault_kept .start _
  · rename_i h
    cases readFields_ok h
    exact .loadEnv (envOf_cw ..)
  · rename_i hlen h
    exact absurd (readFields_ok h) (hlen _ _ _ _ _ _ _)

theorem restoreRule_effect (m : MemOp) : Effect s (.frstor m) (restoreRule m s) := by
  unfold restoreRule
  split
  · exact .fault_kept .start _
  · rename_i h
    cases readFields_ok h
    exact .restore (envOf_cw ..) _
  · rename_i hlen h
    exact absurd (readFields_ok h) (hlen _ _ _ _ _ _ _ _)

/-! ## Every rule -/


/-- A control instruction has one of the effects of `Effect`. -/
theorem ruleOf_effect_of_control (h : isControl i = true) (s : State) : Effect s i (ruleOf i s) := by
  cases i with
  | fnstcw m | fnstswM2byte m => exact storeWordRule_effect rfl rfl _ m
  | fldcw m => exact loadCwRule_effect m
  | fnstswAx => exact .statusToAx
  | fnclex => exact .clearExceptions
  | fninit => exact .initialise
  | fneni | fndisi | fnsetpm => exact .codes_kept .start rfl {} s.draws
  | fnstenv m => exact storeImage_effect rfl _ m fun _ => .storeEnv
  | fnsave m => exact storeImage_effect rfl _ m fun _ => .save
  | fldenv m => exact loadEnvRule_effect m
  | frstor m => exact restoreRule_effect m
  | _ => cases h

/-- Every escape instruction has one of the effects of `Effect`. -/
theorem ruleOf_effect (hw : i ≠ .wait) (s : State) : Effect s i (ruleOf i s) := by
  have hu (h : isControl i = false) : Prepared i s s.pointers := .pointers h
  have hm (h : isControl i = false) (m : MemOp) : Prepared i s (s.pointersMem m) := .pointersMem h m
  cases i with simp only [ruleOf]
  | wait => exact absurd rfl hw
  | fldM32fp m | fldM64fp m | fldM80fp m | fildM16int m | fildM32int m | fildM64int m | fbld m =>
    exact withSource_effect fun _ => pushRule_effect (hm rfl m) rfl _ _
  | fldSt k => exact loadStRule_effect (hu rfl) rfl k
  | fld1 | fldl2t | fldl2e | fldpi | fldlg2 | fldln2 | fldz => exact pushRule_effect (hu rfl) rfl _ _
  | fstM32fp m | fstM64fp m | fstpM32fp m | fstpM64fp m | fstpM80fp m | fistM16int m | fistM32int m | fistpM16int m
  | fistpM32int m | fistpM64int m | fbstp m =>
    exact storeRule_effect rfl rfl _ _ _ _ m
  | fstSt k | fstpSt k | fstp1St k | fstp8St k | fstp9St k => exact storeStRule_effect (hu rfl) rfl k _
  | fcmovb k | fcmove k | fcmovbe k | fcmovu k | fcmovnb k | fcmovne k | fcmovnbe k | fcmovnu k =>
    exact fcmovRule_effect (hu rfl) rfl _ k
  | faddM32fp m | faddM64fp m | fiaddM32int m | fiaddM16int m | fmulM32fp m | fmulM64fp m | fimulM32int m | fimulM16int m
  | fsubM32fp m | fsubM64fp m | fisubM32int m | fisubM16int m | fsubrM32fp m | fsubrM64fp m | fisubrM32int m
  | fisubrM16int m | fdivM32fp m | fdivM64fp m | fidivM32int m | fidivM16int m | fdivrM32fp m | fdivrM64fp m
  | fidivrM32int m | fidivrM16int m => exact withSource_effect fun _ => arithRule_effect (hm rfl m) rfl _ _ _ _ _ _ _
  | faddSt0Sti k | faddStiSt0 k | faddp k | fmulSt0Sti k | fmulStiSt0 k | fmulp k | fsubSt0Sti k | fsubStiSt0 k | fsubp k
  | fsubrSt0Sti k | fsubrStiSt0 k | fsubrp k | fdivSt0Sti k | fdivStiSt0 k | fdivp k | fdivrSt0Sti k | fdivrStiSt0 k
  | fdivrp k => exact arithRule_effect (hu rfl) rfl _ _ _ _ _ _ _
  | fabs | fchs | fsqrt | frndint | f2xm1 => exact unaryRule_effect (hu rfl) rfl _ _
  | fscale => exact binaryRule_effect (hu rfl) rfl _
  | fxtract => exact xtractRule_effect (hu rfl) rfl
  | fprem | fprem1 => exact remRule_effect (hu rfl) rfl _
  | fyl2x | fyl2xp1 | fpatan => exact replacePopRule_effect (hu rfl) rfl _
  | fsin | fcos => exact trigRule_effect (hu rfl) rfl _
  | fptan | fsincos => exact trigPairRule_effect (hu rfl) rfl _
  | fcomM32fp m | fcomM64fp m | fcompM32fp m | fcompM64fp m | ficomM16int m | ficomM32int m | ficompM16int m
  | ficompM32int m => exact withSource_effect fun _ => compare_cc_effect (hm rfl m) rfl _ _ _ _
  | fcomSt k | fcom2St k | fcompSt k | fcomp3St k | fcomp5St k | fucom k | fucomp k =>
    exact compare_cc_effect (hu rfl) rfl _ _ _ _
  | fcompp | fucompp | ftst => exact compare_cc_effect (hu rfl) rfl _ _ _ _
  | fcomi k | fcomip k | fucomi k | fucomip k => exact compare_eflags_effect (hu rfl) rfl rfl _ _ _ _
  | fxam => exact .codes_kept (hu rfl) rfl _ s.draws
  | fxchSt k | fxch4St k | fxch7St k => exact exchangeRule_effect (hu rfl) rfl k
  | fincstp | fdecstp => exact moveTopRule_effect (hu rfl) rfl _
  | ffree k => exact freeRule_effect (hu rfl) rfl k
  | ffreep k => exact freePopRule_effect (hu rfl) rfl k
  | fnop => exact drawCodes_effect (hu rfl) rfl
  | fnstcw _ | fldcw _ | fnstswM2byte _ | fnstswAx | fnclex | fninit | fneni | fndisi | fnsetpm | fnstenv _ | fldenv _
  | fnsave _ | frstor _ => exact ruleOf_effect_of_control rfl s

/-- Everything an instruction that has a next state can do: hand over #UD or #NM, report, complete as WAIT does, or have
an effect of `Effect`. -/
theorem exec_effect {i : Instr} {s t : State} (h : exec i s = .next t) :
    (∃ v, t = s.raiseCpu v) ∨ t = s.report ∨ (i = .wait ∧ t = (s.charge waitCycles).normal) ∨
      (i ≠ .wait ∧ Effect s.normal i t) := by
  rcases exec_cases i s with h' | h' | h' | h' | ⟨hi, h'⟩ | ⟨hi, -, h'⟩ <;> rw [h'] at h <;> cases h
  · exact .inl ⟨_, rfl⟩
  · exact .inl ⟨_, rfl⟩
  · exact .inr (.inl rfl)
  · exact .inr (.inr (.inl ⟨hi, rfl⟩))
  · exact .inr (.inr (.inr ⟨hi, ruleOf_effect hi _⟩))

end Sys2Proof.Machine
end

section
/-! SUPPORT. Every step keeps the invariant: each effect does, and so do the acts of the CPU around an instruction. -/

namespace Sys2Proof.Machine

variable {i : Instr} {s t u : State}

/-! ## ES and B -/

/-- ES and B of a status word summarise the flags that a control word leaves unmasked (spec/10_state.md R40). -/
def Summarised (sw cw : Word16) : Prop := swES sw = unmaskedPending sw cw ∧ sw.getLsbD 15 = swES sw

theorem summarised_recomputeES (sw cw : Word16) : Summarised (recomputeES sw cw) cw := by
  refine ⟨?_, ?_⟩
  · rw [recomputeES, swES_setES, unmaskedPending_setES]
  · rw [recomputeES, swES_setES, getLsbD_setES]; rfl

/-- Only the flags, ES and B matter to the summary. -/
theorem Summarised.congr {sw sw' cw : Word16} (h : Summarised sw cw)
    (hb : ∀ j, j < 8 ∨ j = 15 → sw'.getLsbD j = sw.getLsbD j) : Summarised sw' cw := by
  obtain ⟨hes, hbusy⟩ := h
  refine ⟨?_, ?_⟩
  · rw [unmaskedPending_congr cw fun j hj => hb j (by omega), ← hes]
    exact hb 7 (by decide)
  · rw [hb 15 (by decide), hbusy]
    exact (hb 7 (by decide)).symm

theorem Summarised.writeCodes {sw cw : Word16} (h : Summarised sw cw) (c : Codes) : Summarised (writeCodes sw c) cw := by
  refine h.congr fun j hj => ?_
  rw [getLsbD_writeCodes, if_neg (by omega), if_neg (by omega), if_neg (by omega), if_neg (by omega)]

theorem Summarised.raiseFlags {sw cw : Word16} (h : Summarised sw cw) (e : Exc) : Summarised (raiseFlags sw cw e) cw := by
  obtain ⟨hes, hbusy⟩ := h
  refine ⟨?_, ?_⟩
  · rw [swES_raiseFlags, unmaskedPending_raiseFlags, hes]
  · rw [swES_raiseFlags, getLsbD_raiseFlags _ _ _ (by decide), if_pos (.inl rfl), hbusy]

theorem summarised_clearExceptions (sw cw : Word16) : Summarised (clearExceptions sw) cw := by
  have hb (j : Nat) (hj : (0x7F00 : Word16).getLsbD j = false) : (clearExceptions sw).getLsbD j = false := by
    rw [clearExceptions, BitVec.getLsbD_and, hj, Bool.and_false]
  refine ⟨?_, ?_⟩
  · rw [unmaskedPending_eq, swES_eq, hb 0 rfl, hb 1 rfl, hb 2 rfl, hb 3 rfl, hb 4 rfl, hb 5 rfl, hb 7 rfl]
    rfl
  · rw [swES_eq, hb 7 rfl, hb 15 rfl]

theorem summarised_fninit : Summarised 0x0000 0x037F := by constructor <;> decide

/-! ## CW -/

/-- Masking every exception keeps the canonical form of CW (spec/10_state.md R46). -/
theorem cwStored_maskAll {cw : Word16} (h : cwStored cw = cw) : cwStored (cw ||| 0x003F) = cw ||| 0x003F := by
  rw [← h]
  apply BitVec.eq_of_getLsbD_eq
  intro j hj
  interval_cases j <;> simp [cwStored]

/-! ## Tags -/

theorem TagsMatch.congr (h : TagsMatch s) (hr : t.regs = s.regs) (ht : t.tags = s.tags) : TagsMatch t := by
  unfold TagsMatch State.tag State.reg at h ⊢
  rw [hr, ht]
  exact h

theorem tagsMatch_finish (c : Commit) (sup : Suppress) (h : TagsMatch s) : TagsMatch (c.finish sup s) :=
  (TagsMatch.stackOps (s := { s with sw := raiseFlags s.sw s.cw c.exc }) (c.opsDone sup) h).congr
    (finish_regs s c sup) (finish_tags s c sup)

theorem tagsMatch_fninit (s : State) : TagsMatch s.fninit := by
  intro k hk
  refine absurd ?_ hk
  simp [State.tag]

/-- The tags of a loaded environment are those of the register contents, where they are not empty (R383). -/
theorem tagsMatch_installEnv (s : State) (x : Env) : TagsMatch (s.installEnv x) := by
  intro k hk
  simp only [State.tag, State.reg, installEnv_tags, installEnv_regs, installTags, Vector.getElem_ofFn] at hk ⊢
  split at hk
  · exact absurd rfl hk
  · rw [if_neg ‹_›]; rfl

/-! ## The invariant -/

theorem Inv.summarised (h : Inv s) : Summarised s.sw s.cw := ⟨h.summary, h.busy⟩

theorem Inv.tagsMatch (h : Inv s) : TagsMatch s := h.tags

/-- The invariant speaks of the registers, the tags, SW, CW, `x87_op` and memory alone. -/
theorem Inv.congr (h : Inv s) (hregs : t.regs = s.regs) (htags : t.tags = s.tags) (hsw : t.sw = s.sw) (hcw : t.cw = s.cw)
    (hop : t.x87op = s.x87op) (hmem : t.mem = s.mem) : Inv t where
  summary := by rw [hsw, hcw]; exact h.summary
  busy := by rw [hsw]; exact h.busy
  control := by rw [hcw]; exact h.control
  tags := h.tagsMatch.congr hregs htags
  op := by rw [hop]; exact h.op
  memory := by rw [hmem]; exact h.memory

/-- The invariant from its parts. -/
theorem inv_of (hsum : Summarised t.sw t.cw) (hcw : cwStored t.cw = t.cw) (htags : TagsMatch t)
    (hop : t.x87op &&& 0xF800 = 0) (hmem : Memory.wf t.mem = true) : Inv t :=
  ⟨hsum.1, hsum.2, hcw, htags, hop, hmem⟩

theorem Stored.wf {mem : List Host.Cell} (hm : Stored i s mem) (hw : Memory.wf s.mem = true) : Memory.wf mem = true := by
  rcases hm with rfl | ⟨-, hm⟩
  · exact hw
  · exact hm hw

theorem Inv.store {mem : List Host.Cell} (h : Inv s) (hw : Memory.wf mem = true) : Inv { s with mem := mem } :=
  inv_of h.summarised h.control h.tagsMatch h.op hw

theorem Inv.prepared (h : Inv s) (hu : Prepared i s u) : Inv u := by
  induction hu with
  | start => exact h
  | pointers | pointersMem => exact h.congr rfl rfl rfl rfl rfl rfl
  | free _ k ih => exact inv_of ih.summarised ih.control (ih.tagsMatch.freeReg k) ih.op ih.memory
  | top _ k ih =>
    exact inv_of (ih.summarised.congr fun j hj => getLsbD_setTop _ _ (by omega)) ih.control
      (ih.tagsMatch.congr rfl rfl) ih.op ih.memory

/-- The state before the last act, with memory stored. -/
theorem Inv.preparedStored {mem : List Host.Cell} (h : Inv s) (hu : Prepared i s u) (hm : Stored i s mem) :
    Inv { u with mem := mem } :=
  (h.prepared hu).store (hm.wf h.memory)

theorem Inv.raiseCpu (h : Inv s) (v : CpuVector) : Inv (s.raiseCpu v) := h.congr rfl rfl rfl rfl rfl rfl

theorem Inv.finish (h : Inv s) (c : Commit) (sup : Suppress) : Inv (c.finish sup s) := by
  apply inv_of
  · rw [finish_cw]
    exact (h.summarised.raiseFlags c.exc).congr fun j hj => finish_sw_flag s c sup hj
  · rw [finish_cw]; exact h.control
  · exact tagsMatch_finish c sup h.tagsMatch
  · rw [finish_x87op]; exact h.op
  · rw [finish_mem]; exact h.memory

theorem Inv.codes (h : Inv s) (c : Codes) (n : Nat) : Inv { s with sw := writeCodes s.sw c, draws := n } :=
  inv_of (h.summarised.writeCodes c) h.control (h.tagsMatch.congr rfl rfl) h.op h.memory

theorem Inv.drawCodes (h : Inv s) : Inv s.drawCodes := h.codes _ _

theorem Inv.loadCw (h : Inv s) (v : Word16) : Inv (s.loadCw v) :=
  inv_of (summarised_recomputeES _ _) (cwStored_idem v) (h.tagsMatch.congr rfl rfl) h.op h.memory

theorem Inv.maskAll (h : Inv s) : Inv (maskAll s) :=
  Inv.drawCodes (s := { s with cw := s.cw ||| 0x003F, sw := recomputeES s.sw (s.cw ||| 0x003F) })
    (inv_of (summarised_recomputeES _ _) (cwStored_maskAll h.control) (h.tagsMatch.congr rfl rfl) h.op h.memory)

theorem Inv.fninit (h : Inv s) : Inv s.fninit :=
  inv_of summarised_fninit (by decide : cwStored 0x037F = 0x037F) (tagsMatch_fninit s) h.op h.memory

theorem Inv.clearEx (h : Inv s) : Inv (clearExRule s) :=
  Inv.drawCodes (s := { s with sw := clearExceptions s.sw })
    (inv_of (summarised_clearExceptions _ _) h.control (h.tagsMatch.congr rfl rfl) h.op h.memory)

theorem inv_installEnv (x : Env) (hop : s.x87op &&& 0xF800 = 0) (hmem : Memory.wf s.mem = true) : Inv (s.installEnv x) :=
  inv_of (summarised_recomputeES _ _) (cwStored_idem _) (tagsMatch_installEnv s x) hop hmem

/-- Every effect keeps the invariant. -/
theorem Inv.effect (h : Inv s) (e : Effect s i t) : Inv t := by
  cases e with
  | fault hu hm v => exact (h.preparedStored hu hm).raiseCpu v
  | finish hu hm _ c sup _ => exact (h.preparedStored hu hm).finish c sup
  | codes hu hm _ c n => exact (h.preparedStored hu hm).codes c n
  | statusToAx => exact h.drawCodes.congr rfl rfl rfl rfl rfl rfl
  | clearExceptions => exact h.clearEx
  | loadControl m => exact (h.loadCw _).drawCodes
  | initialise => exact h.fninit
  | storeEnv hm => exact (h.store (hm.wf h.memory)).maskAll
  | save hm => exact (h.store (hm.wf h.memory)).fninit
  | loadEnv => exact inv_installEnv _ h.op h.memory
  | restore => exact inv_installEnv _ h.op h.memory

theorem Inv.report (h : Inv s) : Inv s.report :=
  h.congr (report_regs s) (report_tags s) (report_sw s) (report_cw s) (report_x87op s) (report_mem s)

/-- Every instruction keeps the invariant. -/
theorem Inv.exec (h : Inv s) (he : exec i s = .next t) : Inv t := by
  rcases exec_effect he with ⟨v, rfl⟩ | rfl | ⟨-, rfl⟩ | ⟨-, e⟩
  · exact h.raiseCpu v
  · exact h.report
  · exact h.congr rfl rfl rfl rfl rfl rfl
  · exact Inv.effect (s := s.normal) (h.congr rfl rfl rfl rfl rfl rfl) e

/-! ## What the CPU does around an instruction -/

/-- What a plan records in `x87_op` has 11 bits. -/
def Plan.OpFits : Plan → Prop
  | .run _ _ op _ => ∀ w, op = some w → w &&& 0xF800 = 0
  | .invalidOpcode _ op => op &&& 0xF800 = 0
  | .refuse _ => True

theorem getLsbD_x87OpOf_of_le (esc modrm : Byte) {j : Nat} (hj : 11 ≤ j) : (x87OpOf esc modrm).getLsbD j = false := by
  rw [show x87OpOf esc modrm = (0#5 ++ escOf esc) ++ modrm from rfl, BitVec.getLsbD_append, if_neg (by omega),
    BitVec.getLsbD_append, if_neg (by omega), BitVec.getLsbD_zero]

theorem x87OpOf_fits (esc modrm : Byte) : x87OpOf esc modrm &&& 0xF800 = 0 := by
  refine BitVec.eq_of_getLsbD_eq (y := 0#16) fun j hj => ?_
  rw [BitVec.getLsbD_and, BitVec.getLsbD_zero]
  by_cases h : j < 11
  · rw [show (0xF800 : Word16).getLsbD j = false by interval_cases j <;> rfl, Bool.and_false]
  · rw [getLsbD_x87OpOf_of_le _ _ (by omega), Bool.false_and]

theorem recordedOp_fits {bs : List Byte} {w : Word16} (h : recordedOp bs = some w) : w &&& 0xF800 = 0 := by
  unfold recordedOp at h
  split at h
  · split at h
    · cases h; exact x87OpOf_fits _ _
    · cases h
  · cases h

theorem planUndefined_opFits (c : Params) (a : AddrSize) (inp : Inputs) (esc modrm : Byte) (len : Nat)
    (rest : List Byte) : (planUndefined c a inp esc modrm len rest).OpFits := by
  have hop : ∀ w, some (x87OpOf esc modrm) = some w → w &&& 0xF800 = 0 := by
    rintro _ ⟨⟩
    exact x87OpOf_fits _ _
  rcases planUndefined_cases c a inp esc modrm len rest with
    ⟨-, h⟩ | ⟨-, -, h⟩ | ⟨-, -, h⟩ | ⟨row, -, -, h⟩ <;> rw [h]
  · exact x87OpOf_fits _ _
  · trivial
  · exact hop
  · exact hop

theorem plan_opFits (s : State) : s.plan.OpFits := by
  unfold State.plan planBytes planAfter
  dsimp only
  split
  · split
    · exact fun _ => recordedOp_fits
    · split
      · exact planUndefined_opFits ..
      · trivial
  · exact planUndefined_opFits ..
  · trivial
  · trivial

/-- The inputs and the recorded opcode keep the invariant when the opcode fits. -/
theorem Inv.latch (h : Inv s) (inp : Inputs) {op : Option Word16} (hop : ∀ w, op = some w → w &&& 0xF800 = 0) :
    Inv (s.latch inp op) := by
  refine inv_of h.summarised h.control (h.tagsMatch.congr rfl rfl) ?_ h.memory
  cases op with
  | none => exact h.op
  | some w => exact hop w rfl

theorem Inv.resume (h : Inv s) (before len : Nat) : Inv (s.resume before len) :=
  h.congr (resume_regs ..) (resume_tags ..) (resume_sw ..) (resume_cw ..) (resume_x87op ..) (resume_mem ..)

/-- Everything a step can do: deliver the deferred request, run the planned instruction, or raise #UD for an undefined
encoding. -/
theorem step_cases (h : step s = .next t) :
    (s.mfDue = true ∧ t = s.deliverMF) ∨
      (∃ i inp op len u, s.plan = .run i inp op len ∧ exec i (s.latch inp op) = .next u ∧ t = u.resume s.irq13 len) ∨
      ∃ inp op, s.plan = .invalidOpcode inp op ∧ t = (s.latch inp (some op)).raiseCpu .invalidOpcode := by
  unfold step at h
  split at h
  · cases h
  split at h
  · cases h; exact .inl ⟨‹_›, rfl⟩
  split at h
  · rename_i i inp op len hp
    cases he : exec i (s.latch inp op) with
    | next u =>
      rw [he] at h
      cases h
      exact .inr (.inl ⟨i, inp, op, len, u, hp, he, rfl⟩)
    | fault f => rw [he] at h; cases h
    | refused r => rw [he] at h; cases h
  · rename_i inp op hp
    cases h
    exact .inr (.inr ⟨inp, op, hp, rfl⟩)
  · cases h

theorem Inv.step (h : Inv s) (hs : step s = .next t) : Inv t := by
  have hfits := plan_opFits s
  rcases step_cases hs with ⟨-, rfl⟩ | ⟨i, inp, op, len, u, hp, he, rfl⟩ | ⟨inp, op, hp, rfl⟩
  · exact h.congr rfl rfl rfl rfl rfl rfl
  · rw [hp] at hfits
    exact ((h.latch inp hfits).exec he).resume _ _
  · rw [hp] at hfits
    refine (h.latch inp ?_).raiseCpu _
    rintro _ ⟨⟩
    exact hfits

/-- Settles O7, by the effects of the rules: each keeps the invariant. -/
theorem stepKeepsInv : Obligations.StepKeepsInv := fun _ _ h hs => h.step hs

end Sys2Proof.Machine
end

section
/-! SUPPORT. Who writes what: the fields that no effect changes, and those that one instruction or a few may change. -/

namespace Sys2Proof.Machine

variable {i : Instr} {s t u : State}

/-! ## The state of the CPU -/

/-- The state of the CPU that no rule of an escape instruction writes, with the inputs, the parameters and the cycle
account. -/
structure SameCpu (s t : State) : Prop where
  cr0 : t.cr0 = s.cr0
  segs : t.segs = s.segs
  eip : t.eip = s.eip
  code32 : t.code32 = s.code32
  mode : t.mode = s.mode
  inp : t.inp = s.inp
  x87op : t.x87op = s.x87op
  params : t.params = s.params
  faultMap : t.faultMap = s.faultMap
  neReq : t.neReq = s.neReq
  irq13 : t.irq13 = s.irq13
  cycles : t.cycles = s.cycles

theorem Prepared.sameCpu (h : Prepared i s u) : SameCpu s u := by
  rw [h.kept]
  constructor <;> rfl

theorem SameCpu.finish {mem : List Host.Cell} (h : SameCpu s u) (c : Commit) (sup : Suppress) :
    SameCpu s (c.finish sup { u with mem := mem }) where
  cr0 := (finish_cr0 ..).trans h.cr0
  segs := (finish_segs ..).trans h.segs
  eip := (finish_eip ..).trans h.eip
  code32 := (finish_code32 ..).trans h.code32
  mode := (finish_mode ..).trans h.mode
  inp := (finish_inp ..).trans h.inp
  x87op := (finish_x87op ..).trans h.x87op
  params := (finish_params ..).trans h.params
  faultMap := (finish_faultMap ..).trans h.faultMap
  neReq := (finish_neReq ..).trans h.neReq
  irq13 := (finish_irq13 ..).trans h.irq13
  cycles := (finish_cycles ..).trans h.cycles

theorem Effect.sameCpu (e : Effect s i t) : SameCpu s t := by
  cases e with
  | fault hu | codes hu => exact { hu.sameCpu with }
  | finish hu _ _ c sup _ => exact hu.sameCpu.finish c sup
  | statusToAx | clearExceptions | loadControl | initialise | storeEnv | save | loadEnv | restore =>
    constructor <;> rfl

theorem le_report_irq13 (s : State) : s.irq13 ≤ s.report.irq13 := by
  rw [report_irq13]
  split
  · exact le_rfl
  · exact Nat.le_succ _

/-- Settles O19: an instruction hands a fault over, reports, completes as WAIT does, or has an effect that leaves the CPU's
state alone. -/
theorem cpuStateUntouched : Obligations.CpuStateUntouched := by
  intro i s t h
  rcases exec_effect h with ⟨v, rfl⟩ | rfl | ⟨rfl, rfl⟩ | ⟨-, e⟩
  · simp
  · have hn (h : s.neReq = true) : s.report.neReq = true := by rw [report_neReq, h, Bool.or_true]
    simpa using ⟨hn, le_report_irq13 s⟩
  · simp
  · have hc := e.sameCpu
    exact ⟨hc.cr0, hc.segs, hc.eip, hc.code32, hc.mode, hc.inp, hc.x87op, hc.params, hc.faultMap,
      fun hn => hc.neReq.trans hn, hc.irq13.ge, fun _ => hc.cycles⟩

theorem resume_eip (s : State) (before len : Nat) : (s.resume before len).eip =
    if s.completion = .normal ∨ (s.irq13 ≠ before ∧ s.params.irq13Resume = .next) then advanceEip s.code32 s.eip len
    else s.eip := by
  unfold State.resume
  split <;> rfl

/-- A step whose plan is to run an instruction runs it and then resumes. -/
theorem step_run {inp : Inputs} {op : Option Word16} {len : Nat} (hmf : s.mfDue = false)
    (hp : s.plan = .run i inp op len) (hs : step s = .next t) :
    ∃ u, exec i (s.latch inp op) = .next u ∧ t = u.resume s.irq13 len := by
  rcases step_cases hs with ⟨hd, -⟩ | ⟨i', inp', op', len', u, hp', he, ht⟩ | ⟨inp', op', hp', -⟩
  · rw [hmf] at hd
    cases hd
  · rw [hp] at hp'
    cases hp'
    exact ⟨u, he, ht⟩
  · rw [hp] at hp'
    cases hp'

/-- Settles O9: no instruction writes EIP, so only the resumption after it does. -/
theorem stepMovesEip : Obligations.StepMovesEip := by
  intro s t i inp op len _ hmf hp hs
  obtain ⟨u, he, rfl⟩ := step_run hmf hp hs
  obtain ⟨-, -, heip, hcode, -, -, -, hparams, -⟩ := cpuStateUntouched i _ u he
  rw [resume_eip, resume_completion, resume_irq13, heip, hcode, hparams]
  rfl

/-! ## The general registers, EFLAGS and memory -/

theorem Prepared.gpr (h : Prepared i s u) : u.gpr = s.gpr := by rw [h.kept]

theorem Prepared.eflags (h : Prepared i s u) : u.eflags = s.eflags := by rw [h.kept]

/-- The general registers with the low 16 bits of EAX replaced by SW (R377, R53). -/
def gprWithStatus (s : State) : Gpr := { s.gpr with eax := (s.gpr.eax &&& 0xFFFF0000) ||| s.sw.setWidth 32 }

/-- The general registers after an effect. -/
theorem Effect.gpr (e : Effect s i t) : t.gpr = s.gpr ∨ i = .fnstswAx ∧ t.gpr = gprWithStatus s := by
  cases e with
  | fault hu | codes hu => exact .inl hu.gpr
  | finish hu _ _ c sup _ => exact .inl ((finish_gpr ..).trans hu.gpr)
  | statusToAx => exact .inr ⟨rfl, rfl⟩
  | clearExceptions | loadControl | initialise | storeEnv | save | loadEnv | restore => exact .inl rfl

/-- EFLAGS after an effect: unchanged, or a compare's relation written to them. -/
theorem Effect.eflags (e : Effect s i t) :
    t.eflags = s.eflags ∨ writesEflags i = true ∧ ∃ r, t.eflags = relEflags s.eflags r := by
  cases e with
  | fault hu | codes hu => exact .inl hu.eflags
  | finish hu _ _ c sup he =>
    rw [finish_eflags]
    simp only [hu.eflags]
    split
    · exact .inr ⟨he.resolve_left (by simp [*]), _, rfl⟩
    · exact .inl rfl
  | statusToAx | clearExceptions | loadControl | initialise | storeEnv | save | loadEnv | restore => exact .inl rfl

/-- Memory after an effect. -/
theorem Effect.mem (e : Effect s i t) : Stored i s t.mem := by
  cases e with
  | fault _ hm | codes _ hm | storeEnv hm | save hm => exact hm
  | finish _ hm _ c sup _ => rwa [finish_mem]
  | statusToAx | clearExceptions | loadControl | initialise | loadEnv | restore => exact .inl rfl

theorem exec_gpr (h : exec i s = .next t) : t.gpr = s.gpr ∨ i = .fnstswAx ∧ t.gpr = gprWithStatus s := by
  rcases exec_effect h with ⟨v, rfl⟩ | rfl | ⟨-, rfl⟩ | ⟨-, e⟩
  · exact .inl rfl
  · exact .inl (report_gpr s)
  · exact .inl rfl
  · exact e.gpr

theorem exec_eflags (h : exec i s = .next t) :
    t.eflags = s.eflags ∨ writesEflags i = true ∧ ∃ r, t.eflags = relEflags s.eflags r := by
  rcases exec_effect h with ⟨v, rfl⟩ | rfl | ⟨-, rfl⟩ | ⟨-, e⟩
  · exact .inl rfl
  · exact .inl (report_eflags s)
  · exact .inl rfl
  · exact e.eflags

theorem exec_mem (h : exec i s = .next t) (hi : storesMemory i = false) : t.mem = s.mem := by
  rcases exec_effect h with ⟨v, rfl⟩ | rfl | ⟨-, rfl⟩ | ⟨-, e⟩
  · rfl
  · exact report_mem s
  · rfl
  · exact e.mem.resolve_right fun hs => by simp [hi] at hs

theorem gprWithStatus_high (s : State) : (gprWithStatus s).eax &&& 0xFFFF0000 = s.gpr.eax &&& 0xFFFF0000 := by
  apply BitVec.eq_of_getLsbD_eq
  intro j hj
  interval_cases j <;> simp [gprWithStatus]

/-- A compare writes no bit of EFLAGS but ZF, PF, CF, OF, SF and AF (R54, R330). -/
theorem relEflags_kept (f : Word32) (r : Rel) : relEflags f r &&& ~~~(0x8D5 : Word32) = f &&& ~~~(0x8D5 : Word32) := by
  apply BitVec.eq_of_getLsbD_eq
  intro j hj
  rw [BitVec.getLsbD_and, BitVec.getLsbD_and, relEflags_bits f r j hj]
  by_cases h : j = 0 ∨ j = 2 ∨ j = 4 ∨ j = 6 ∨ j = 7 ∨ j = 11
  · have hm : (~~~(0x8D5 : Word32)).getLsbD j = false := by
      rcases h with rfl | rfl | rfl | rfl | rfl | rfl <;> rfl
    rw [hm, Bool.and_false, Bool.and_false]
  · rw [if_neg (by omega), if_neg (by omega), if_neg (by omega), if_neg (by omega)]

/-- Settles O20, by what an effect does to the general registers, to EFLAGS and to memory. -/
theorem writers : Obligations.Writers := by
  intro i s t h
  refine ⟨fun hi => ?_, fun hi => ?_, fun hi => ?_, ?_, exec_mem h⟩
  · exact (exec_gpr h).resolve_right fun hax => hi hax.1
  · rcases exec_gpr h with hg | ⟨-, hg⟩ <;> rw [hg]
    · exact ⟨rfl, rfl⟩
    · exact ⟨rfl, gprWithStatus_high s⟩
  · exact (exec_eflags h).resolve_right fun he => by simp [hi] at he
  · rcases exec_eflags h with he | ⟨-, r, he⟩ <;> rw [he]
    exact relEflags_kept _ r

/-! ## CW -/

theorem Prepared.cw (h : Prepared i s u) : u.cw = s.cw := by rw [h.kept]

/-- An instruction outside `writesCw` leaves CW unchanged. -/
theorem Effect.cw_kept (e : Effect s i t) (hi : writesCw i = false) : t.cw = s.cw := by
  cases e with
  | fault hu | codes hu => exact hu.cw
  | finish hu _ _ c sup _ => exact (finish_cw ..).trans hu.cw
  | statusToAx | clearExceptions => rfl
  | loadControl | initialise | storeEnv | save | loadEnv | restore => cases hi

/-- The canonical form of CW is kept (R46). -/
theorem Effect.cw_stored (e : Effect s i t) (h : cwStored s.cw = s.cw) : cwStored t.cw = t.cw := by
  have kept (ht : t.cw = s.cw) : cwStored t.cw = t.cw := by rw [ht]; exact h
  cases e with
  | fault hu | codes hu => exact kept hu.cw
  | finish hu _ _ c sup _ => exact kept ((finish_cw ..).trans hu.cw)
  | statusToAx | clearExceptions => exact h
  | loadControl | loadEnv | restore => exact cwStored_idem _
  | initialise | save => exact (by decide : cwStored 0x037F = 0x037F)
  | storeEnv => exact cwStored_maskAll h

/-- FLDCW, FLDENV and FRSTOR, where they complete, store the word at their operand's address (R46). -/
theorem Effect.cw_loaded {m : MemOp} (e : Effect s i t) (hi : i ∈ [Instr.fldcw m, .fldenv m, .frstor m])
    (hc : t.completion = .normal) : t.cw = cwStored (BitVec.ofNat 16 (s.operand m 2)) := by
  have hw : writesCw i = true := by
    simp only [List.mem_cons, List.not_mem_nil, or_false] at hi
    rcases hi with rfl | rfl | rfl <;> rfl
  cases e with
  | fault => cases hc
  | finish _ _ hi' | codes _ _ hi' => rw [hw] at hi'; cases hi'
  | loadControl =>
    obtain rfl : _ = m := by simpa using hi
    rfl
  | loadEnv hx | restore hx =>
    obtain rfl : _ = m := by simpa using hi
    exact congrArg cwStored hx
  | statusToAx | clearExceptions | initialise | storeEnv | save => simp at hi

theorem exec_cw_loaded {m : MemOp} (h : exec i s = .next t) (hi : i ∈ [Instr.fldcw m, .fldenv m, .frstor m])
    (hc : t.completion = .normal) : t.cw = cwStored (BitVec.ofNat 16 (s.operand m 2)) := by
  rcases exec_effect h with ⟨v, rfl⟩ | rfl | ⟨rfl, -⟩ | ⟨-, e⟩
  · cases hc
  · rw [report_completion] at hc
    cases hc
  · simp at hi
  · exact e.cw_loaded hi hc

theorem exec_cw_stored (h : exec i s = .next t) (hs : cwStored s.cw = s.cw) : cwStored t.cw = t.cw := by
  rcases exec_effect h with ⟨v, rfl⟩ | rfl | ⟨-, rfl⟩ | ⟨-, e⟩
  · exact hs
  · rw [report_cw]; exact hs
  · exact hs
  · exact e.cw_stored hs

theorem exec_cw_kept (h : exec i s = .next t) (hi : writesCw i = false) : t.cw = s.cw := by
  rcases exec_effect h with ⟨v, rfl⟩ | rfl | ⟨-, rfl⟩ | ⟨-, e⟩
  · rfl
  · exact report_cw s
  · rfl
  · exact e.cw_kept hi

/-- Settles O21, by what an effect does to CW. -/
theorem controlWordWriters : Obligations.ControlWordWriters :=
  ⟨fun _ _ _ _ hi h hc => exec_cw_loaded h hi hc, fun _ _ _ h hs => exec_cw_stored h hs,
    fun _ _ _ hi h => exec_cw_kept h hi⟩

/-! ## The exception flags -/

theorem Prepared.flag (h : Prepared i s u) {k : Nat} (hk : k < 7) : u.sw.getLsbD k = s.sw.getLsbD k := by
  induction h with
  | start | pointers | pointersMem => rfl
  | free _ _ ih => exact ih
  | top _ _ ih => exact (getLsbD_setTop _ _ (by omega)).trans ih

theorem writeCodes_flag (sw : Word16) (c : Codes) {k : Nat} (hk : k < 7) :
    (writeCodes sw c).getLsbD k = sw.getLsbD k := by
  rw [getLsbD_writeCodes, if_neg (by omega), if_neg (by omega), if_neg (by omega), if_neg (by omega)]

theorem recomputeES_flag (sw cw : Word16) {k : Nat} (hk : k < 7) : (recomputeES sw cw).getLsbD k = sw.getLsbD k := by
  rw [recomputeES, getLsbD_setES, if_neg (by omega)]

theorem finish_flag_of_set (c : Commit) (sup : Suppress) {k : Nat} (hk : k < 7) (h : s.sw.getLsbD k = true) :
    (c.finish sup s).sw.getLsbD k = true := by
  rw [finish_sw_flag _ _ _ (by omega), getLsbD_raiseFlags _ _ _ (by omega), if_neg (by omega), h, Bool.true_or]

/-- An instruction outside `clearsFlags` clears no flag of SW. -/
theorem Effect.flag_kept (e : Effect s i t) (hi : clearsFlags i = false) {k : Nat} (hk : k < 7)
    (h : s.sw.getLsbD k = true) : t.sw.getLsbD k = true := by
  cases e with
  | fault hu => exact (hu.flag hk).trans h
  | finish hu _ _ c sup _ => exact finish_flag_of_set c sup hk ((hu.flag hk).trans h)
  | codes hu _ _ c _ => exact (writeCodes_flag _ c hk).trans ((hu.flag hk).trans h)
  | statusToAx => exact (writeCodes_flag _ _ hk).trans h
  | loadControl | storeEnv => exact (writeCodes_flag _ _ hk).trans ((recomputeES_flag _ _ hk).trans h)
  | clearExceptions | initialise | save | loadEnv | restore => cases hi

/-- Settles O22, by what an effect does to the flags. -/
theorem stickyFlags : Obligations.StickyFlags := by
  intro i s t k hi h hk hs
  rcases exec_effect h with ⟨v, rfl⟩ | rfl | ⟨-, rfl⟩ | ⟨-, e⟩
  · exact hs
  · rw [report_sw]; exact hs
  · exact hs
  · exact e.flag_kept hi hk hs

/-! ## The pointers -/

/-- The last-instruction pointers are those of `s` (R47). -/
def SamePointers (s t : State) : Prop :=
  t.fip = s.fip ∧ t.fcs = s.fcs ∧ t.fop = s.fop ∧ t.fdp = s.fdp ∧ t.fds = s.fds

/-- The control instructions that clear the pointers or load them (R60, R375, R383, R386). -/
def replacesPointers : Instr → Bool
  | .fninit | .fnsave _ | .fldenv _ | .frstor _ => true
  | _ => false

theorem Prepared.samePointers (h : Prepared i s u) (hi : isControl i = true) : SamePointers s u := by
  induction h with
  | start => exact ⟨rfl, rfl, rfl, rfl, rfl⟩
  | pointers hn | pointersMem hn => rw [hi] at hn; cases hn
  | free _ _ ih | top _ _ ih => exact ih

/-- A control instruction outside `replacesPointers` keeps the pointers. -/
theorem Effect.samePointers (e : Effect s i t) (hi : isControl i = true) (hr : replacesPointers i = false) :
    SamePointers s t := by
  cases e with
  | fault hu | codes hu => exact hu.samePointers hi
  | finish hu _ _ c sup _ =>
    unfold SamePointers
    rw [finish_fip, finish_fcs, finish_fop, finish_fdp, finish_fds]
    exact hu.samePointers hi
  | statusToAx | clearExceptions | loadControl | storeEnv => exact ⟨rfl, rfl, rfl, rfl, rfl⟩
  | initialise | save | loadEnv | restore => cases hr

/-- Settles O23: the listed instructions are WAIT and the control instructions that replace no pointer. -/
theorem pointersKept : Obligations.PointersKept := by
  intro m i s t hi h
  have hc : i = .wait ∨ isControl i = true ∧ replacesPointers i = false := by
    simp only [List.mem_cons, List.not_mem_nil, or_false] at hi
    rcases hi with rfl | rfl | rfl | rfl | rfl | rfl | rfl | rfl | rfl | rfl <;> simp [isControl, replacesPointers]
  rcases exec_effect h with ⟨v, rfl⟩ | rfl | ⟨-, rfl⟩ | ⟨hw, e⟩
  · exact ⟨rfl, rfl, rfl, rfl, rfl⟩
  · exact ⟨report_fip s, report_fcs s, report_fop s, report_fdp s, report_fds s⟩
  · exact ⟨rfl, rfl, rfl, rfl, rfl⟩
  · obtain ⟨hk, hr⟩ := hc.resolve_left hw
    exact e.samePointers hk hr

end Sys2Proof.Machine
end

section
/-! SUPPORT. The register forms of the arithmetic, and the values at hardware reset. -/

namespace Sys2Proof.Machine

variable {i : Instr} {s : State}

/-! ## The register forms of the arithmetic -/

/-- Each register form is ARITH on its two registers, with one pop or none. -/
theorem ruleOf_arithForms {k : BitVec 3} {f : ArithForm} (hf : f ∈ arithForms k) :
    f.instr ≠ .wait ∧ kindOf f.instr = .waiting ∧ (f.pops == 1).toNat = f.pops ∧
      ruleOf f.instr = fun t => arithStRule f.op f.reversed f.dst f.src (f.pops == 1) t.pointers := by
  simp only [arithForms, List.mem_cons, List.not_mem_nil, or_false] at hf
  rcases hf with
    rfl | rfl | rfl | rfl | rfl | rfl | rfl | rfl | rfl | rfl | rfl | rfl | rfl | rfl | rfl | rfl | rfl | rfl <;>
    exact ⟨nofun, rfl, rfl, rfl⟩

/-- A register form writes its result to its destination and pops; an empty operand is a stack fault (R250, R251). -/
theorem arithStRule_completes {k : ArithOp} {reversed pop : Bool} {dst src : BitVec 3}
    (h : exec i s = .next (arithStRule k reversed dst src pop s.normal.pointers)) :
    if s.isEmpty dst || s.isEmpty src then
      Completes i s (Exc.stackFault, false) fun t => Wrote pop.toNat s t (s.phys dst) realIndefinite
    else
      let r := arithValue k reversed (s.numCtx s.precision) (.reg (s.st dst)) (.reg (s.st src))
      Completes i s (r.exc, r.c1) fun t => Wrote pop.toNat s t (s.phys dst) r.v := by
  have hempty (j : BitVec 3) : s.normal.pointers.isEmpty j = s.isEmpty j := rfl
  have hst (j : BitVec 3) : s.normal.pointers.st j = s.st j := rfl
  have hctx : s.normal.pointers.numCtx s.normal.pointers.precision = s.numCtx s.precision := rfl
  unfold arithStRule arithRule at h
  rw [hempty, hempty, hst, hst, hctx] at h
  -- `(… :)` keeps the goal from the unifier, which would evaluate the arithmetic.
  split at h
  · rw [if_pos ‹_›]
    exact (completes_write h rfl rfl rfl rfl rfl :)
  · rw [if_neg ‹_›]
    exact (completes_write h rfl rfl rfl rfl rfl :)

/-- The precision CW.PC selects (R44). -/
theorem precision_of_pc (s : State) :
    (s.cw.extractLsb' 8 2 = 0b00 → s.precision = 24) ∧ (s.cw.extractLsb' 8 2 = 0b10 → s.precision = 53) ∧
      (s.cw.extractLsb' 8 2 = 0b11 → s.precision = 64) ∧
      (s.cw.extractLsb' 8 2 = 0b01 → s.precision = pc01Precision s.params.pc01) := by
  unfold State.precision precisionOf
  refine ⟨fun h => ?_, fun h => ?_, fun h => ?_, fun h => ?_⟩ <;> rw [h] <;> rfl

/-- Settles O31: every form is ARITH on its two registers, which ends in one COMMIT. -/
theorem registerArithmetic : Obligations.RegisterArithmetic := by
  refine ⟨fun k f hf s hs => ?_, fun s => ?_⟩
  · obtain ⟨hw, hk, hp, hr⟩ := ruleOf_arithForms hf
    have h := exec_ready hw (hk ▸ hs)
    rw [hr] at h
    rw [← hp]
    exact arithStRule_completes h
  · obtain ⟨h24, h53, h64, h01⟩ := precision_of_pc s
    exact ⟨h24, h53, h64, h01, fun _ => ⟨rfl, rfl, rfl⟩⟩

/-! ## Reset -/

/-- Settles O5, column by column: the CPU's RESET writes every field that the table of R71 lists. -/
theorem resetValues : Obligations.ResetValues := by
  intro prior regs op
  have hop : (0#5 ++ op : BitVec (5 + 11)) = op.setWidth 16 := (BitVec.setWidth_eq_append (by decide)).symm
  have hreg (k : BitVec 3) : (State.resetOf .intelReset regs op).reg k = 0 :=
    Vector.getElem_replicate (n := 8) _
  refine ⟨fun rs s hs => ?_, fun s hs => ?_, fun s hs => ?_⟩ <;>
    simp only [List.mem_cons, List.not_mem_nil, or_false] at hs <;> rcases hs with rfl | rfl
  · exact ⟨rfl, rfl, rfl, rfl, rfl, rfl, rfl, hop⟩
  · exact ⟨rfl, rfl, rfl, rfl, rfl, rfl, rfl, hop⟩
  · exact ⟨rfl, rfl, rfl⟩
  · exact ⟨rfl, rfl, rfl⟩
  · exact ⟨rfl, rfl, hreg⟩
  · exact ⟨rfl, rfl, hreg⟩

end Sys2Proof.Machine
end

section
/-! SUPPORT. Memory and its faults: what a write leaves in each byte, and the fault of a range, handed over by every instruction
that reads it. -/

namespace Sys2Proof.Machine

variable {i : Instr} {s : State} {m : MemOp} {f : MemFault}

/-! ## The bytes of a write -/

/-- A write starting just above an address, of fewer than 2^32 bytes, leaves the byte at that address alone. -/
theorem readByte_writeLE_above {n : Nat} {mem : List Host.Cell} (a : Word32) (v : Nat) (hn : n < 2 ^ 32)
    (hw : Memory.wf mem = true) : readByte (writeLE mem (a + 1) n v) a.toNat = readByte mem a.toNat := by
  refine readByte_writeLE_other n (a + 1) v a.toNat (fun i hi => ?_) hw
  rw [add_one_add]
  simpa using toNat_add_ne (a := a) (i := 0) (j := i + 1) (by omega) (by omega) (by omega)

/-- Byte k of a write holds bits 8k+7:8k of the value (spec/20_memory.md R81). -/
theorem readByte_writeLE_at : ∀ (n : Nat) {mem : List Host.Cell} (a : Word32) (v : Nat) {k : Nat}, n ≤ 2 ^ 32 →
    Memory.wf mem = true → k < n →
      readByte (writeLE mem a n v) (a + BitVec.ofNat 32 k).toNat = BitVec.ofNat 8 (v / 256 ^ k)
  | n + 1, mem, a, v, 0, hn, hw, _ => by
    rw [writeLE, BitVec.add_zero, readByte_writeLE_above a _ (by omega) (writeByte_wf _ a.isLt hw),
      readByte_writeByte_same _ _ hw, pow_zero, Nat.div_one]
  | n + 1, mem, a, v, k + 1, hn, hw, hk => by
    rw [writeLE, ← add_one_add, readByte_writeLE_at n (a + 1) (v / 256) (by omega) (writeByte_wf _ a.isLt hw) (by omega),
      Nat.div_div_eq_div_mul, Nat.pow_succ']

/-- Settles O24: a write that is allowed is `writeLE`, and its bytes, the other bytes and the canonical form are lemmas about
`writeLE`. -/
theorem memoryReadsBack : Obligations.MemoryReadsBack := by
  intro s a n v mem hw hn h
  obtain ⟨-, rfl⟩ := memWrite_ok h
  have hn' : n ≤ 2 ^ 32 := by omega
  exact ⟨readLE_writeLE_same n a v hn' hw, fun k hk => readByte_writeLE_at n a v hn' hw hk,
    fun x hx => readByte_writeLE_other n a v x hx hw, writeLE_wf n a v hw⟩

/-! ## The fault of a range -/

/-- The fault of a range is that of its first part, and without one that of the rest. -/
theorem accessFault_add (map : List FaultRegion) (write : Bool) : ∀ (j k : Nat) (a : Word32),
    accessFault map write a (j + k) = (accessFault map write a j).or (accessFault map write (a + BitVec.ofNat 32 j) k)
  | 0, k, a => by rw [Nat.zero_add, BitVec.add_zero]; rfl
  | j + 1, k, a => by
    rw [Nat.add_right_comm, accessFault, accessFault]
    split
    · rfl
    · rw [accessFault_add map write j k (a + 1), add_one_add]

/-- The fields (offset, width) stand one after the other, the first at offset `off`. -/
def consecutive : Nat → List (Nat × Nat) → Bool
  | _, [] => true
  | off, f :: fs => f.1 == off && consecutive (off + f.2) fs

/-- The number of bytes in a list of fields. -/
def slotsSize (fs : List (Nat × Nat)) : Nat := (fs.map Prod.snd).sum

/-- The fault of a range that consecutive fields fill is that of the first field, and without one that of the others. -/
theorem accessFault_slots (map : List FaultRegion) (write : Bool) (a : Word32) (f : Nat × Nat) (fs : List (Nat × Nat)) :
    accessFault map write (a + BitVec.ofNat 32 f.1) (slotsSize (f :: fs)) =
      (accessFault map write (a + BitVec.ofNat 32 f.1) f.2).or
        (accessFault map write (a + BitVec.ofNat 32 (f.1 + f.2)) (slotsSize fs)) := by
  rw [slotsSize, List.map_cons, List.sum_cons, accessFault_add, BitVec.add_assoc, ← BitVec.ofNat_add]
  rfl

/-- The reads of consecutive fields end in the fault of the range that they fill (R85). -/
theorem readFields_fault {a : Word32} : ∀ {fs : List (Nat × Nat)} {off : Nat}, consecutive off fs = true →
    accessFault s.faultMap false (a + BitVec.ofNat 32 off) (slotsSize fs) = some f → s.readFields a fs = .error f
  | [], _, _, h => nomatch h
  | x :: fs, off, hc, h => by
    simp only [consecutive, Bool.and_eq_true, beq_iff_eq] at hc
    obtain ⟨rfl, hc⟩ := hc
    rw [accessFault_slots] at h
    rw [State.readFields, State.memRead]
    cases hx : accessFault s.faultMap false (a + BitVec.ofNat 32 x.1) x.2 with
    | some e =>
      rw [hx] at h
      cases h
      rfl
    | none =>
      rw [hx, Option.none_or] at h
      rw [readFields_fault hc h]

/-- The reads of consecutive fields without a fault give what memory holds. -/
theorem readFields_accessible {a : Word32} : ∀ {fs : List (Nat × Nat)} {off : Nat}, consecutive off fs = true →
    accessFault s.faultMap false (a + BitVec.ofNat 32 off) (slotsSize fs) = none →
      s.readFields a fs = .ok (fs.map fun f => readLE s.mem (a + BitVec.ofNat 32 f.1) f.2)
  | [], _, _, _ => rfl
  | x :: fs, off, hc, h => by
    simp only [consecutive, Bool.and_eq_true, beq_iff_eq] at hc
    obtain ⟨rfl, hc⟩ := hc
    rw [accessFault_slots, Option.or_eq_none_iff] at h
    obtain ⟨hx, h⟩ := h
    rw [State.readFields, memRead_of_accessible hx, readFields_accessible hc h]
    rfl

/-! ## The images of FLDENV and FRSTOR -/

/-- The fields that FLDENV, and with `restore` FRSTOR, reads (R382, R387). -/
def imageSlots (l : Layout) (restore : Bool) : List (Nat × Nat) := if restore then saveSlots l else envSlots l

theorem consecutive_imageSlots (l : Layout) (restore : Bool) : consecutive 0 (imageSlots l restore) = true := by
  cases l <;> cases restore <;> rfl

theorem slotsSize_imageSlots (s : State) (restore : Bool) : slotsSize (imageSlots s.layout restore) = imageSize s restore := by
  unfold State.layout imageSize
  cases s.inp.opSize <;> cases s.mode <;> cases restore <;> rfl

theorem readFields_imageSlots_fault {restore : Bool}
    (h : accessFault s.faultMap false (s.addr m) (imageSize s restore) = some f) :
    s.readFields (s.addr m) (imageSlots s.layout restore) = .error f := by
  refine readFields_fault (consecutive_imageSlots _ _) ?_
  rw [BitVec.add_zero, slotsSize_imageSlots]
  exact h

theorem readFields_imageSlots_readable {restore : Bool} (h : Readable s m (imageSize s restore)) :
    s.readFields (s.addr m) (imageSlots s.layout restore) =
      .ok ((imageSlots s.layout restore).map fun f => readLE s.mem (s.addr m + BitVec.ofNat 32 f.1) f.2) := by
  refine readFields_accessible (consecutive_imageSlots _ _) ?_
  rw [BitVec.add_zero, slotsSize_imageSlots]
  exact h

/-! ## Instructions with a memory source -/

theorem withSource_fault {n : Nat} (h : accessFault s.faultMap false (s.addr m) n = some f) (rule : Nat → State → State) :
    withSource m n rule s = s.raiseCpu f.vector := by
  rw [withSource, State.memRead, h]

theorem loadCwRule_fault (h : accessFault s.faultMap false (s.addr m) 2 = some f) :
    loadCwRule m s = s.raiseCpu f.vector := by
  rw [loadCwRule, State.memRead, h]

theorem loadEnvRule_fault (h : accessFault s.faultMap false (s.addr m) (imageSize s false) = some f) :
    loadEnvRule m s = s.raiseCpu f.vector := by
  have hr : s.readFields (s.addr m) (envSlots s.layout) = .error f := readFields_imageSlots_fault h
  rw [loadEnvRule, hr]

theorem restoreRule_fault (h : accessFault s.faultMap false (s.addr m) (imageSize s true) = some f) :
    restoreRule m s = s.raiseCpu f.vector := by
  have hr : s.readFields (s.addr m) (saveSlots s.layout) = .error f := readFields_imageSlots_fault h
  rw [restoreRule, hr]

/-- An instruction with a memory source is a waiting escape instruction. -/
theorem waiting_of_sourceOf {x : MemOp × Nat} (h : sourceOf s i = some x) : i ≠ .wait ∧ kindOf i = .waiting := by
  cases i with
  | wait | fnstcw | fnstswM2byte | fnstswAx | fnclex | fninit | fneni | fndisi | fnsetpm | fnstenv | fnsave => cases h
  | _ => exact ⟨nofun, rfl⟩

/-- The rule of an instruction with a memory source hands the source's fault over (R59, R85). -/
theorem ruleOf_source_fault {n : Nat} (hs : sourceOf s i = some (m, n))
    (h : accessFault s.faultMap false (s.addr m) n = some f) : ruleOf i s = s.raiseCpu f.vector := by
  cases i with simp only [ruleOf]
  | fldcw => cases hs; exact loadCwRule_fault h
  | fldenv => cases hs; exact loadEnvRule_fault h
  | frstor => cases hs; exact restoreRule_fault h
  | fldM32fp | fldM64fp | fldM80fp | fildM16int | fildM32int | fildM64int | fbld
  | faddM32fp | faddM64fp | fiaddM32int | fiaddM16int | fmulM32fp | fmulM64fp | fimulM32int | fimulM16int
  | fsubM32fp | fsubM64fp | fisubM32int | fisubM16int | fsubrM32fp | fsubrM64fp | fisubrM32int | fisubrM16int
  | fdivM32fp | fdivM64fp | fidivM32int | fidivM16int | fdivrM32fp | fdivrM64fp | fidivrM32int | fidivrM16int
  | fcomM32fp | fcomM64fp | fcompM32fp | fcompM64fp | ficomM16int | ficomM32int | ficompM16int | ficompM32int =>
    cases hs
    exact withSource_fault h _
  | _ => cases hs

/-- Settles O25: each instruction with a memory source reads it before anything else. -/
theorem sourceFaults : Obligations.SourceFaults := by
  intro i s m n f hr hs h
  obtain ⟨hw, hk⟩ := waiting_of_sourceOf hs
  exact run_rule hw (hk ▸ hr) (ruleOf_source_fault (s := s.normal) hs h)

end Sys2Proof.Machine
end

section
/-! SUPPORT. FLDENV and FRSTOR: the environment they read, what they install, and the registers that FRSTOR loads. -/

namespace Sys2Proof.Machine

variable {s : State} {m : MemOp}

/-! ## Parts of a number in memory -/

/-- A number of two parts is the concatenation of the parts. -/
theorem ofNat_append {k n y : Nat} (x : Nat) (hy : y < 2 ^ n) :
    BitVec.ofNat (k + n) (x * 2 ^ n + y) = BitVec.ofNat k x ++ BitVec.ofNat n y := by
  apply BitVec.eq_of_getLsbD_eq
  intro j hj
  rw [BitVec.getLsbD_append, BitVec.getLsbD_ofNat, BitVec.getLsbD_ofNat, BitVec.getLsbD_ofNat, Nat.mul_comm,
    Nat.testBit_two_pow_mul_add _ hy]
  by_cases h : j < n
  · simp [h, hj]
  · simp [h, hj, show j - n < k by omega]

theorem ofNat_zero_append {k n y : Nat} (hy : y < 2 ^ n) : BitVec.ofNat (k + n) y = 0#k ++ BitVec.ofNat n y := by
  rw [← ofNat_append 0 hy, Nat.zero_mul, Nat.zero_add]

theorem bitsOf_lt (v lo n : Nat) : bitsOf v lo n < 2 ^ n := Nat.mod_lt _ (Nat.two_pow_pos n)

/-- A field of a number is that of the word it fits in. -/
theorem ofNat_bitsOf (v : Nat) {w lo n : Nat} (h : lo + n ≤ w) :
    BitVec.ofNat n (bitsOf v lo n) = (BitVec.ofNat w v).extractLsb' lo n := by
  apply BitVec.eq_of_getLsbD_eq
  intro j hj
  rw [BitVec.getLsbD_ofNat, BitVec.getLsbD_extractLsb', BitVec.getLsbD_ofNat, bitsOf, Nat.testBit_mod_two_pow,
    Nat.testBit_div_two_pow]
  simp [hj, show lo + j < w by omega, Nat.add_comm]

theorem ofNat_low (v : Nat) {w n : Nat} (h : n ≤ w) : BitVec.ofNat n v = (BitVec.ofNat w v).extractLsb' 0 n := by
  rw [← ofNat_bitsOf v (by omega), bitsOf, pow_zero, Nat.div_one]
  exact BitVec.eq_of_toNat_eq (by simp)

/-! ## The environment of an image (R86, R382) -/

/-- A linear pointer of the 16-bit real layout: 4 bits of one field above the 16 of another. -/
theorem pointer_real16 (e : Nat) {d : Nat} (hd : d < 2 ^ 16) :
    BitVec.ofNat 32 (bitsOf e 12 4 * 2 ^ 16 + d) = 0#12 ++ (BitVec.ofNat 16 e).extractLsb' 12 4 ++ BitVec.ofNat 16 d := by
  rw [← ofNat_bitsOf e (by decide), ← ofNat_zero_append (bitsOf_lt e 12 4)]
  exact ofNat_append _ hd

/-- A linear pointer of the 32-bit real layout: 16 bits of one field above 16 of another. -/
theorem pointer_real32 (e d : Nat) :
    BitVec.ofNat 32 (bitsOf e 12 16 * 2 ^ 16 + bitsOf d 0 16) =
      (BitVec.ofNat 32 e).extractLsb' 12 16 ++ (BitVec.ofNat 32 d).extractLsb' 0 16 := by
  rw [← ofNat_bitsOf e (by decide), ← ofNat_bitsOf d (by decide)]
  exact ofNat_append _ (bitsOf_lt d 0 16)

/-- The k-th field of the environment image in memory. -/
def envField (s : State) (m : MemOp) (k : Nat) : Nat :=
  readLE s.mem (s.addr m + BitVec.ofNat 32 (s.layout.width * k)) s.layout.width

/-- `READ_ENV` of the seven fields, layout by layout, is the environment at the operand. -/
theorem envOf_envField (s : State) (m : MemOp) :
    envOf s.layout (envField s m 0) (envField s m 1) (envField s m 2) (envField s m 3) (envField s m 4) (envField s m 5)
      (envField s m 6) = envAt s m := by
  have hlt (a : Word32) : readLE s.mem a 2 < 2 ^ 16 := readLE_lt 2 s.mem a
  unfold envField State.layout envAt
  cases s.inp.opSize with
  | o16 =>
    cases s.mode with
    | prot => simp only [layoutOf, Layout.width, envOf, ofNat_zero_append (k := 16) (hlt _)]; rfl
    | real | vm86 =>
      simp only [layoutOf, Layout.width, envOf, pointer_real16 _ (hlt _), ofNat_low _ (show 11 ≤ 16 by decide)]; rfl
  | o32 =>
    cases s.mode with
    | prot =>
      simp only [layoutOf, Layout.width, envOf, ofNat_bitsOf _ (show 16 + 11 ≤ 32 by decide),
        ofNat_low _ (show 16 ≤ 32 by decide)]; rfl
    | real | vm86 =>
      simp only [layoutOf, Layout.width, envOf, pointer_real32, ofNat_low _ (show 11 ≤ 32 by decide),
        ofNat_low _ (show 16 ≤ 32 by decide)]; rfl

/-! ## The registers of FRSTOR (R387) -/

/-- The offsets of consecutive fields of one width. -/
theorem getElem?_slotsFrom (n : Nat) : ∀ {k j : Nat} (off : Nat), j < k → (slotsFrom n off k)[j]? = some (off + n * j, n)
  | k + 1, 0, off, _ => rfl
  | k + 1, j + 1, off, h => by
    rw [slotsFrom, List.getElem?_cons_succ, getElem?_slotsFrom n (off + n) (by omega), Nat.mul_succ, Nat.add_comm (n * j),
      Nat.add_assoc]

/-- The eight register images in memory, after the environment (R87). -/
def regImages (s : State) (m : MemOp) : List Nat :=
  (slotsFrom 10 s.layout.size 8).map fun f => readLE s.mem (s.addr m + BitVec.ofNat 32 f.1) f.2

theorem layout_size (s : State) : s.layout.size = imageSize s false := by
  unfold State.layout imageSize
  cases s.inp.opSize <;> cases s.mode <;> rfl

theorem getElem?_regImages (s : State) (m : MemOp) (j : BitVec 3) :
    (regImages s m)[j.toNat]? =
      some (readLE s.mem (s.addr m + BitVec.ofNat 32 (imageSize s false + 10 * j.toNat)) 10) := by
  rw [regImages, List.getElem?_map, getElem?_slotsFrom 10 _ j.isLt, layout_size]
  rfl

/-- Loading at most eight images from register `t` on: register k receives the image its distance from `t` names, or keeps
its contents. -/
theorem getElem_loadRegs (k : BitVec 3) : ∀ (vs : List Nat) (t : BitVec 3) (regs : Vector F80 8), vs.length ≤ 8 →
    (loadRegs t vs regs)[k.toNat] = (vs[(k - t).toNat]?.map (BitVec.ofNat 80)).getD regs[k.toNat]
  | [], _, _, _ => rfl
  | v :: vs, t, regs, h => by
    rw [List.length_cons] at h
    rw [loadRegs, getElem_loadRegs k vs (t + 1) _ (by omega)]
    by_cases hk : k = t
    · subst hk
      have h7 : (k - (k + 1)).toNat = 7 := by bv_omega
      rw [h7, List.getElem?_eq_none (by omega), BitVec.sub_self, Vector.getElem_set_self]
      rfl
    · have hs : (k - t).toNat = (k - (t + 1)).toNat + 1 := by bv_omega
      rw [hs, List.getElem?_cons_succ, Vector.getElem_set_ne _ _ fun he => hk (BitVec.eq_of_toNat_eq he.symm)]

/-- FRSTOR's load: ST(j), relative to the loaded TOP, receives the j-th image. -/
theorem getElem_loadRegs_regImages (s : State) (m : MemOp) (t j : BitVec 3) (regs : Vector F80 8) :
    (loadRegs t (regImages s m) regs)[(t + j).toNat] =
      BitVec.ofNat 80 (readLE s.mem (s.addr m + BitVec.ofNat 32 (imageSize s false + 10 * j.toNat)) 10) := by
  rw [getElem_loadRegs _ _ _ _ (le_refl 8), BitVec.add_comm, BitVec.add_sub_cancel, getElem?_regImages]
  rfl

/-! ## FLDENV and FRSTOR (R383, R385, R387) -/

theorem recomputeES_kept (sw cw : Word16) : recomputeES sw cw &&& 0x7F7F = sw &&& 0x7F7F := by
  refine sw_mask_of _ fun j _ hm => ?_
  rw [recomputeES, getLsbD_setES, if_neg]
  rintro (rfl | rfl) <;> cases hm

/-- `INSTALL_ENV` installs the environment (R383). -/
theorem installed_installEnv (s : State) (x : Env) : Installed (s.installEnv x) x := by
  obtain ⟨hes, hb⟩ := summarised_recomputeES x.sw (cwStored x.cw)
  refine ⟨rfl, recomputeES_kept _ _, ?_, hb, fun k => ?_, rfl, rfl, rfl, rfl, rfl⟩
  · rw [installEnv_sw, recomputeES, swES_setES, unmaskedPending, bne_iff_ne]
    rfl
  · simp only [State.tag, State.reg, installEnv_tags, installEnv_regs, installTags, Vector.getElem_ofFn]
    rfl

theorem loadEnvRule_readable (h : Readable s m (imageSize s false)) : loadEnvRule m s = s.installEnv (envAt s m) := by
  have hr : s.readFields (s.addr m) (envSlots s.layout) = _ := readFields_imageSlots_readable h
  rw [loadEnvRule, hr, ← envOf_envField]
  rfl

theorem restoreRule_readable (h : Readable s m (imageSize s true)) :
    restoreRule m s =
      { s with regs := loadRegs (topOf (envAt s m).sw) (regImages s m) s.regs }.installEnv (envAt s m) := by
  have hr : s.readFields (s.addr m) (saveSlots s.layout) = _ := readFields_imageSlots_readable h
  rw [restoreRule, hr, ← envOf_envField]
  rfl

/-- Settles O53: without a fault both rules end in `INSTALL_ENV` of the environment at the operand, FRSTOR's after the load of
the registers. -/
theorem loadsEnvironment : Obligations.LoadsEnvironment := by
  intro restore s m hr hm
  cases restore with
  | false =>
    refine ⟨_, run_rule (i := .fldenv m) nofun hr (loadEnvRule_readable (s := s.normal) hm), ?_, rfl, rfl⟩
    exact installed_installEnv _ _
  | true =>
    refine ⟨_, run_rule (i := .frstor m) nofun hr (restoreRule_readable (s := s.normal) hm), ?_, fun j => ?_, rfl⟩
    · exact installed_installEnv _ _
    · exact getElem_loadRegs_regImages s m _ j _

end Sys2Proof.Machine
end

section
/-! SUPPORT. The parts of the decoder and of the encoder (spec/30_encoding.md R110, R118, R120, R123, R124): what each reader
makes of what the writer writes, and the bytes each reader's answer was read from. -/

namespace Sys2Proof

/-! ## Bytes -/

@[simp] theorem modOf_packByte (md : BitVec 2) (reg rm : BitVec 3) : modOf (packByte md reg rm) = md := by
  revert md reg rm
  decide

@[simp] theorem regOf_packByte (md : BitVec 2) (reg rm : BitVec 3) : regOf (packByte md reg rm) = reg := by
  revert md reg rm
  decide

@[simp] theorem rmOf_packByte (md : BitVec 2) (reg rm : BitVec 3) : rmOf (packByte md reg rm) = rm := by
  revert md reg rm
  decide

/-- A byte is its three fields (R118). -/
@[simp] theorem packByte_fields (b : Byte) : packByte (modOf b) (regOf b) (rmOf b) = b := by
  revert b
  decide

@[simp] theorem escOf_escapeByte (esc : BitVec 3) : escOf (escapeByte esc) = esc := by
  revert esc
  decide

@[simp] theorem isEscape_escapeByte (esc : BitVec 3) : isEscape (escapeByte esc) = true := by
  revert esc
  decide

/-- An escape byte is its identifier after the five high bits of D8 (R110, R111). -/
theorem escapeByte_escOf {b : Byte} (h : isEscape b = true) : escapeByte (escOf b) = b := by
  revert b
  decide

theorem ne_wait_of_isEscape {b : Byte} (h : isEscape b = true) : b ≠ 0x9B := by
  rintro rfl
  cases h

/-! ## Register numbers -/

@[simp] theorem reg32Of_reg32Num (r : Reg32) : reg32Of (reg32Num r) = r := by cases r <;> rfl

@[simp] theorem reg32Num_reg32Of (n : BitVec 3) : reg32Num (reg32Of n) = n := by
  revert n
  decide

@[simp] theorem base16Of_base16Num (b : Base16) : base16Of (base16Num b) = b := by cases b <;> rfl

@[simp] theorem base16Num_base16Of (n : BitVec 3) : base16Num (base16Of n) = n := by
  revert n
  decide

/-! ## Displacements -/

theorem bytes16_append (b1 b0 : Byte) : bytes16 (b1 ++ b0) = [b0, b1] :=
  congrArg₂ (fun x y => [x, y]) BitVec.extractLsb'_append_eq_right BitVec.extractLsb'_append_eq_left

theorem bytes32_append (b3 b2 b1 b0 : Byte) : bytes32 (b3 ++ b2 ++ b1 ++ b0) = [b0, b1, b2, b3] := by
  simp only [bytes32, List.cons.injEq, and_true]
  refine ⟨?_, ?_, ?_, ?_⟩ <;> ext j hj <;> grind

theorem append_bytes16 (d : BitVec 16) : d.extractLsb' 8 8 ++ d.extractLsb' 0 8 = d :=
  (BitVec.extractLsb'_append_extractLsb'_eq_extractLsb' (by decide)).trans BitVec.extractLsb'_eq_self

theorem append_bytes32 (d : BitVec 32) :
    d.extractLsb' 24 8 ++ d.extractLsb' 16 8 ++ d.extractLsb' 8 8 ++ d.extractLsb' 0 8 = d := by
  rw [BitVec.extractLsb'_append_extractLsb'_eq_extractLsb' (by decide),
    BitVec.extractLsb'_append_extractLsb'_eq_extractLsb' (by decide),
    BitVec.extractLsb'_append_extractLsb'_eq_extractLsb' (by decide)]
  exact BitVec.extractLsb'_eq_self

@[simp] theorem take16_bytes16 (d : BitVec 16) (rest : List Byte) : take16 (bytes16 d ++ rest) = some (d, rest) :=
  congrArg (fun d => some (d, rest)) (append_bytes16 d)

theorem eq_bytes16_of_take16 {bs rest : List Byte} {d : BitVec 16} (h : take16 bs = some (d, rest)) :
    bs = bytes16 d ++ rest := by
  match bs, h with
  | b0 :: b1 :: bs, h =>
    cases h
    rw [bytes16_append]
    rfl

@[simp] theorem take32_bytes32 (d : BitVec 32) (rest : List Byte) : take32 (bytes32 d ++ rest) = some (d, rest) :=
  congrArg (fun d => some (d, rest)) (append_bytes32 d)

theorem eq_bytes32_of_take32 {bs rest : List Byte} {d : BitVec 32} (h : take32 bs = some (d, rest)) :
    bs = bytes32 d ++ rest := by
  match bs, h with
  | b0 :: b1 :: b2 :: b3 :: bs, h =>
    cases h
    rw [bytes32_append]
    rfl

@[simp] theorem takeDisp16_encodeDisp16 (d : Disp16) (rest : List Byte) :
    takeDisp16 (encodeDisp16 d).1 ((encodeDisp16 d).2 ++ rest) = some (d, rest) := by
  cases d with
  | none | d8 d => rfl
  | d16 d => simp [takeDisp16, encodeDisp16]

@[simp] theorem takeDisp32_encodeDisp32 (d : Disp32) (rest : List Byte) :
    takeDisp32 (encodeDisp32 d).1 ((encodeDisp32 d).2 ++ rest) = some (d, rest) := by
  cases d with
  | none | d8 d => rfl
  | d32 d => simp [takeDisp32, encodeDisp32]

theorem mod_cases {md : BitVec 2} (h : md ≠ 3) : md = 0 ∨ md = 1 ∨ md = 2 := by
  revert md
  decide

/-- The displacement read under a mod value below 3 is the one whose bytes stand there. -/
theorem encodeDisp16_of_takeDisp16 {md : BitVec 2} {bs rest : List Byte} {d : Disp16} (hmd : md ≠ 3)
    (h : takeDisp16 md bs = some (d, rest)) : (encodeDisp16 d).1 = md ∧ bs = (encodeDisp16 d).2 ++ rest := by
  rcases mod_cases hmd with rfl | rfl | rfl
  · cases h
    exact ⟨rfl, rfl⟩
  · match bs, h with
    | b :: bs, h =>
      cases h
      exact ⟨rfl, rfl⟩
  · obtain ⟨⟨d, rest⟩, ht, ⟨⟩⟩ := Option.map_eq_some_iff.mp h
    exact ⟨rfl, eq_bytes16_of_take16 ht⟩

theorem encodeDisp32_of_takeDisp32 {md : BitVec 2} {bs rest : List Byte} {d : Disp32} (hmd : md ≠ 3)
    (h : takeDisp32 md bs = some (d, rest)) : (encodeDisp32 d).1 = md ∧ bs = (encodeDisp32 d).2 ++ rest := by
  rcases mod_cases hmd with rfl | rfl | rfl
  · cases h
    exact ⟨rfl, rfl⟩
  · match bs, h with
    | b :: bs, h =>
      cases h
      exact ⟨rfl, rfl⟩
  · obtain ⟨⟨d, rest⟩, ht, ⟨⟩⟩ := Option.map_eq_some_iff.mp h
    exact ⟨rfl, eq_bytes32_of_take32 ht⟩

/-! ## Memory operands (R120) -/

/-- BP with no displacement, which is ill formed, is what the numbers of the form without a base would say. -/
theorem wf_ind16_iff (b : Base16) (d : Disp16) :
    (MemOp.ind16 b d).wf = true ↔ ¬((encodeDisp16 d).1 = 0 ∧ base16Num b = 6) := by
  cases b <;> cases d <;> simp [MemOp.wf, encodeDisp16, base16Num]

/-- The numbers of a base register and a displacement that are neither a SIB form's nor those of the form without a base. -/
theorem wf_ind32_iff (b : Reg32) (d : Disp32) :
    (MemOp.ind32 b d).wf = true ↔ reg32Num b ≠ 4 ∧ ¬((encodeDisp32 d).1 = 0 ∧ reg32Num b = 5) := by
  cases b <;> cases d <;> simp [MemOp.wf, encodeDisp32, reg32Num]

theorem wf_sib_iff (scale : BitVec 2) (index base : Reg32) (d : Disp32) :
    (MemOp.sib scale index base d).wf = true ↔ ¬((encodeDisp32 d).1 = 0 ∧ reg32Num base = 5) := by
  cases base <;> cases d <;> simp [MemOp.wf, encodeDisp32, reg32Num]

/-- Reading a well-formed operand where it was written gives it back, whatever follows. -/
theorem memOp_encodeMemOp {m : MemOp} (hwf : m.wf = true) (rest : List Byte) :
    memOp m.addrSize (encodeMemOp m).1 (encodeMemOp m).2.1 ((encodeMemOp m).2.2 ++ rest) = some (m, rest) := by
  cases m with
  | abs16 d => simp [memOp, memOp16, MemOp.addrSize, encodeMemOp]
  | ind16 b d =>
    refine (if_neg ((wf_ind16_iff b d).mp hwf)).trans ?_
    simp [encodeMemOp]
  | abs32 d => simp [memOp, memOp32, MemOp.addrSize, encodeMemOp]
  | ind32 b d =>
    obtain ⟨hsib, habs⟩ := (wf_ind32_iff b d).mp hwf
    refine (if_neg hsib).trans ((if_neg habs).trans ?_)
    simp [encodeMemOp]
  | sib scale index base d =>
    have habs := (wf_sib_iff scale index base d).mp hwf
    change sibOp (encodeDisp32 d).1 (packByte scale (reg32Num index) (reg32Num base)) ((encodeDisp32 d).2 ++ rest) = _
    rw [sibOp, rmOf_packByte, if_neg habs]
    simp
  | sibAbs scale index d => simp [memOp, memOp32, sibOp, MemOp.addrSize, encodeMemOp]

/-- An operand of an address size that is written as (mod, rm) and the bytes of `bs` before `rest`. -/
def MemOp.WrittenAs (m : MemOp) (a : AddrSize) (md : BitVec 2) (rm : BitVec 3) (bs rest : List Byte) : Prop :=
  m.wf = true ∧ m.addrSize = a ∧ (encodeMemOp m).1 = md ∧ (encodeMemOp m).2.1 = rm ∧ bs = (encodeMemOp m).2.2 ++ rest

variable {a : AddrSize} {md : BitVec 2} {rm : BitVec 3} {bs rest : List Byte} {m : MemOp}

theorem writtenAs_of_memOp16 (hmd : md ≠ 3) (h : memOp16 md rm bs = some (m, rest)) : m.WrittenAs .a16 md rm bs rest := by
  unfold memOp16 at h
  split at h
  · rename_i habs
    obtain ⟨rfl, rfl⟩ := habs
    obtain ⟨⟨d, rest⟩, ht, ⟨⟩⟩ := Option.map_eq_some_iff.mp h
    exact ⟨rfl, rfl, rfl, rfl, eq_bytes16_of_take16 ht⟩
  · rename_i habs
    obtain ⟨⟨d, rest⟩, ht, ⟨⟩⟩ := Option.map_eq_some_iff.mp h
    obtain ⟨rfl, hbs⟩ := encodeDisp16_of_takeDisp16 hmd ht
    exact ⟨(wf_ind16_iff _ _).mpr (by simpa using habs), rfl, rfl, base16Num_base16Of rm, hbs⟩

theorem writtenAs_of_sibOp {sib : Byte} (hmd : md ≠ 3) (h : sibOp md sib bs = some (m, rest)) :
    m.WrittenAs .a32 md 4 (sib :: bs) rest := by
  unfold sibOp at h
  split at h
  · rename_i habs
    obtain ⟨rfl, hbase⟩ := habs
    obtain ⟨⟨d, rest⟩, ht, ⟨⟩⟩ := Option.map_eq_some_iff.mp h
    refine ⟨rfl, rfl, rfl, rfl, ?_⟩
    simp [encodeMemOp, ← hbase, eq_bytes32_of_take32 ht]
  · rename_i habs
    obtain ⟨⟨d, rest⟩, ht, ⟨⟩⟩ := Option.map_eq_some_iff.mp h
    obtain ⟨rfl, hbs⟩ := encodeDisp32_of_takeDisp32 hmd ht
    refine ⟨(wf_sib_iff _ _ _ _).mpr (by simpa using habs), rfl, rfl, rfl, ?_⟩
    simp [encodeMemOp, hbs]

theorem writtenAs_of_memOp32 (hmd : md ≠ 3) (h : memOp32 md rm bs = some (m, rest)) : m.WrittenAs .a32 md rm bs rest := by
  unfold memOp32 at h
  split at h
  · rename_i hsib
    subst hsib
    match bs, h with
    | sib :: bs, h => exact writtenAs_of_sibOp hmd h
  · rename_i hsib
    split at h
    · rename_i habs
      obtain ⟨rfl, rfl⟩ := habs
      obtain ⟨⟨d, rest⟩, ht, ⟨⟩⟩ := Option.map_eq_some_iff.mp h
      exact ⟨rfl, rfl, rfl, rfl, eq_bytes32_of_take32 ht⟩
    · rename_i habs
      obtain ⟨⟨d, rest⟩, ht, ⟨⟩⟩ := Option.map_eq_some_iff.mp h
      obtain ⟨rfl, hbs⟩ := encodeDisp32_of_takeDisp32 hmd ht
      exact ⟨(wf_ind32_iff _ _).mpr (by simpa using ⟨hsib, not_and.mp habs⟩), rfl, rfl, reg32Num_reg32Of rm, hbs⟩

/-- An operand read under a mod value below 3 is well formed, and written as it was read. -/
theorem writtenAs_of_memOp (hmd : md ≠ 3) (h : memOp a md rm bs = some (m, rest)) : m.WrittenAs a md rm bs rest := by
  cases a with
  | a16 => exact writtenAs_of_memOp16 hmd h
  | a32 => exact writtenAs_of_memOp32 hmd h

/-! ## The tables (R123, R124) -/

variable {i : Instr} {esc reg : BitVec 3}

theorem opcodeOf_eq_wait_iff : opcodeOf i = .wait ↔ i = .wait := by
  refine ⟨fun h => ?_, fun h => h ▸ rfl⟩
  cases i with
  | wait => rfl
  | _ => cases h

theorem opcodeOf_of_memForm (h : memForm esc reg m = some i) : opcodeOf i = .mem esc reg m := by
  unfold memForm at h
  split at h <;> cases h <;>
    exact congrArg₂ (Opcode.mem · · m) (BitVec.eq_of_toNat_eq (Eq.symm ‹_›)) (BitVec.eq_of_toNat_eq (Eq.symm ‹_›))

/-- The memory table is the inverse of the opcodes with a memory operand. -/
theorem memForm_eq_some_iff : memForm esc reg m = some i ↔ opcodeOf i = .mem esc reg m := by
  refine ⟨opcodeOf_of_memForm, fun h => ?_⟩
  cases i <;> cases h <;> rfl

theorem opcodeOf_of_regForm : ∀ (esc reg rm : BitVec 3), ∀ i ∈ regForm esc reg rm, opcodeOf i = .reg esc reg rm := by
  decide

/-- The register tables are the inverse of the opcodes with an rm. -/
theorem regForm_eq_some_iff : regForm esc reg rm = some i ↔ opcodeOf i = .reg esc reg rm := by
  refine ⟨opcodeOf_of_regForm esc reg rm i, fun h => ?_⟩
  cases i <;> cases h <;> rfl

end Sys2Proof
end

section
/-! SUPPORT. Decoding (spec/30_encoding.md R110, R118, R121, R126): what the decoder makes of the bytes after an escape byte, said
once for a register form and once for a memory form, and from it the round trips and the undefined encodings. -/

namespace Sys2Proof

variable {a : AddrSize} {esc modrm : Byte} {bs rest rest' : List Byte} {m : MemOp} {i : Instr} {e r : BitVec 3}

/-! ## One instruction's bytes -/

theorem decode_escape (h : isEscape esc = true) : decode a (esc :: rest) = decodeEscape a esc rest := by
  rw [decode, if_neg (ne_wait_of_isEscape h), if_pos h]

/-- A register form is looked up by (escape, reg, rm), and has two bytes (R118). -/
theorem decodeEscape_register (hmod : modOf modrm = 3) :
    decodeEscape a esc (modrm :: rest) =
      (regForm (escOf esc) (regOf modrm) (rmOf modrm)).elim (.error (.undefined esc modrm 2)) fun i => .ok ⟨i, 2⟩ := by
  rw [decodeEscape, if_pos hmod]
  cases regForm (escOf esc) (regOf modrm) (rmOf modrm) <;> rfl

/-- A memory form is looked up by (escape, reg), and its length counts the bytes of its operand (R118, R121). -/
theorem decodeEscape_memory (hmod : modOf modrm ≠ 3) (hm : memOp a (modOf modrm) (rmOf modrm) rest = some (m, rest')) :
    decodeEscape a esc (modrm :: rest) =
      (memForm (escOf esc) (regOf modrm) m).elim (.error (.undefined esc modrm (2 + (rest.length - rest'.length))))
        fun i => .ok ⟨i, 2 + (rest.length - rest'.length)⟩ := by
  simp only [decodeEscape, if_neg hmod, hm]
  cases memForm (escOf esc) (regOf modrm) m <;> rfl

theorem decodeEscape_truncated (hmod : modOf modrm ≠ 3) (hm : memOp a (modOf modrm) (rmOf modrm) rest = none) :
    decodeEscape a esc (modrm :: rest) = .error .truncated := by
  simp only [decodeEscape, if_neg hmod, hm]

/-! ## The round trips -/

theorem Instr.wf_of_opcodeOf_mem (h : opcodeOf i = .mem e r m) : i.wf = m.wf := by
  cases i <;> cases h <;> rfl

theorem Instr.wf_of_opcodeOf_reg {rm : BitVec 3} (h : opcodeOf i = .reg e r rm) : i.wf = true := by
  cases i <;> cases h <;> rfl

/-- Settles O1: each part of the opcode is read back where it was written. -/
theorem decodeEncode : Obligations.DecodeEncode := by
  intro i a rest hwf hfits
  unfold encode
  cases hop : opcodeOf i with
  | wait =>
    rw [opcodeOf_eq_wait_iff.mp hop]
    rfl
  | reg e r rm =>
    have hform : regForm e r rm = some i := regForm_eq_some_iff.mpr hop
    change decode a (escapeByte e :: packByte 3 r rm :: rest) = _
    rw [decode_escape (isEscape_escapeByte e), decodeEscape_register (modOf_packByte 3 r rm)]
    simp [hform, encodeOpcode]
  | mem e r m =>
    have hform : memForm e r m = some i := memForm_eq_some_iff.mpr hop
    have ha : m.addrSize = a := by simpa [Instr.fits, hop, Opcode.fits] using hfits
    have hm := memOp_encodeMemOp ((Instr.wf_of_opcodeOf_mem hop).symm.trans hwf) rest
    change decode a (escapeByte e :: packByte (encodeMemOp m).1 r (encodeMemOp m).2.1 :: ((encodeMemOp m).2.2 ++ rest)) = _
    rw [decode_escape (isEscape_escapeByte e),
      decodeEscape_memory (by simpa using Laws.RowMatch.mod_ne_three m) (by simpa [← ha] using hm)]
    simp [hform, encodeOpcode, Nat.add_comm 2]

/-- A decoded instruction that has an encoding under the address size, with the bytes it was read from: its encoding is the
first `len` of them. -/
def Decoded.ReadFrom (d : Decoded) (a : AddrSize) (bs : List Byte) : Prop :=
  d.instr.wf = true ∧ d.instr.fits a = true ∧ ∃ rest, bs = encode d.instr ++ rest ∧ d.len = (encode d.instr).length

/-- The answer of a table lookup that succeeds. -/
theorem eq_some_of_elim_ok {o : Option Instr} {x : Reject} {n : Nat} {d : Decoded}
    (h : o.elim (.error x) (fun i => .ok ⟨i, n⟩) = (.ok d : Except Reject Decoded)) : o = some d.instr ∧ d.len = n := by
  cases o with
  | none => cases h
  | some i =>
    cases h
    exact ⟨rfl, rfl⟩

theorem eq_of_elim_error {o : Option Instr} {x y : Reject} {n : Nat}
    (h : o.elim (.error x) (fun i => .ok ⟨i, n⟩) = (.error y : Except Reject Decoded)) : y = x := by
  cases o with
  | none =>
    cases h
    rfl
  | some i => cases h

theorem readFrom_register {d : Decoded} (hesc : isEscape esc = true) (hmod : modOf modrm = 3)
    (h : decodeEscape a esc (modrm :: rest) = .ok d) : d.ReadFrom a (esc :: modrm :: rest) := by
  rw [decodeEscape_register hmod] at h
  obtain ⟨hform, hlen⟩ := eq_some_of_elim_ok h
  have hop := regForm_eq_some_iff.mp hform
  refine ⟨Instr.wf_of_opcodeOf_reg hop, by simp [Instr.fits, hop, Opcode.fits], rest, ?_, ?_⟩
  · simp [encode, hop, encodeOpcode, escapeByte_escOf hesc, ← hmod]
  · rw [hlen, encode, hop]
    rfl

theorem readFrom_memory {d : Decoded} (hesc : isEscape esc = true) (hmod : modOf modrm ≠ 3)
    (hm : memOp a (modOf modrm) (rmOf modrm) rest = some (m, rest')) (h : decodeEscape a esc (modrm :: rest) = .ok d) :
    d.ReadFrom a (esc :: modrm :: rest) := by
  rw [decodeEscape_memory hmod hm] at h
  obtain ⟨hform, hlen⟩ := eq_some_of_elim_ok h
  have hop := memForm_eq_some_iff.mp hform
  obtain ⟨hwf, ha, hmd, hrm, rfl⟩ := writtenAs_of_memOp hmod hm
  refine ⟨(Instr.wf_of_opcodeOf_mem hop).trans hwf, by simp [Instr.fits, hop, Opcode.fits, ha], rest', ?_, ?_⟩
  · simp [encode, hop, encodeOpcode, escapeByte_escOf hesc, hmd, hrm]
  · simp [hlen, encode, hop, encodeOpcode, Nat.add_comm 2]

theorem readFrom_decodeEscape {d : Decoded} (hesc : isEscape esc = true) (h : decodeEscape a esc bs = .ok d) :
    d.ReadFrom a (esc :: bs) := by
  match bs, h with
  | modrm :: rest, h =>
    by_cases hmod : modOf modrm = 3
    · exact readFrom_register hesc hmod h
    · cases hm : memOp a (modOf modrm) (rmOf modrm) rest with
      | none =>
        rw [decodeEscape_truncated hmod hm] at h
        cases h
      | some x => exact readFrom_memory hesc hmod hm h

theorem readFrom_decode {d : Decoded} (h : decode a bs = .ok d) : d.ReadFrom a bs := by
  unfold decode at h
  split at h
  · cases h
  split at h
  · subst_vars
    cases h
    exact ⟨rfl, rfl, _, rfl, rfl⟩
  split at h
  · exact readFrom_decodeEscape ‹_› h
  · cases h

/-- Settles O2: the bytes read are those of the parts that the encoder writes. -/
theorem encodeDecode : Obligations.EncodeDecode := by
  intro a bs d h
  obtain ⟨hwf, hfits, rest, rfl, hlen⟩ := readFrom_decode h
  refine ⟨hwf, hfits, ?_, ?_⟩
  · rw [hlen, List.length_append]
    exact Nat.le_add_right _ _
  · rw [hlen, List.take_left]

/-- Settles O3: each word is decoded by evaluation. -/
theorem decodeWords : Obligations.DecodeWords := by
  unfold Obligations.DecodeWords
  decide

/-! ## The undefined encodings (R126, R127) -/

/-- The memory table has an entry for every (escape, reg) but the seven of R127, whatever the operand. -/
theorem memForm_eq_none_iff (m : MemOp) : memForm e r m = none ↔
    (e, r) ∈ ([(1, 1), (3, 1), (5, 1), (7, 1), (3, 4), (3, 6), (5, 5)] : List (BitVec 3 × BitVec 3)) := by
  have h : (memForm e r m).isNone = (memForm e r (.abs16 0)).isNone := by
    unfold memForm
    split <;> rfl
  rw [← Option.isNone_iff_eq_none, h]
  clear h
  revert e r
  decide

/-- The register tables have an entry for every (escape, reg, rm) outside the ranges that R124 calls undefined. -/
theorem regForm_eq_none_iff : ∀ e r rm : BitVec 3, regForm e r rm = none ↔
    ∃ x ∈ Machine.undefinedRegisterForms, escapeByte e = x.1 ∧ x.2.1 ≤ packByte 3 r rm ∧ packByte 3 r rm ≤ x.2.2 := by
  decide

/-- Settles O4: the undefined encodings are those the tables have no entry for. -/
theorem undefinedForms : Obligations.UndefinedForms := by
  constructor
  · intro a esc modrm rest rest' m hesc hmod hm
    rw [decode_escape hesc, decodeEscape_memory hmod hm, ← memForm_eq_none_iff m]
    cases memForm (escOf esc) (regOf modrm) m <;> simp
  · intro a esc modrm rest hesc hmod
    have h := regForm_eq_none_iff (escOf esc) (regOf modrm) (rmOf modrm)
    rw [escapeByte_escOf hesc, ← hmod, packByte_fields] at h
    rw [decode_escape hesc, decodeEscape_register hmod, ← h]
    cases regForm (escOf esc) (regOf modrm) (rmOf modrm) <;> simp

/-- Where the bytes after an escape byte are no instruction, they end inside one or are an undefined encoding, named by its
own escape and ModRM bytes. -/
theorem decodeEscape_error {x : Reject} (h : decodeEscape a esc (modrm :: rest) = .error x) :
    x = .truncated ∨ ∃ n, x = .undefined esc modrm n := by
  by_cases hmod : modOf modrm = 3
  · rw [decodeEscape_register hmod] at h
    exact .inr ⟨_, eq_of_elim_error h⟩
  · cases hm : memOp a (modOf modrm) (rmOf modrm) rest with
    | none =>
      rw [decodeEscape_truncated hmod hm] at h
      cases h
      exact .inl rfl
    | some y =>
      rw [decodeEscape_memory hmod hm] at h
      exact .inr ⟨_, eq_of_elim_error h⟩

end Sys2Proof
end

section
/-! SUPPORT. What a step makes of the bytes at EIP (spec/30_encoding.md R112, R122, R126): the plan of an instruction and of an
undefined encoding, and the step of each plan. -/

namespace Sys2Proof.Machine

variable {s t : State} {c : Params} {code32 : Bool} {p : Prefixes} {a : AddrSize} {inp : Inputs} {esc modrm : Byte} {len : Nat}
  {bs rest : List Byte}

/-! ## The step of a plan -/

theorem plan_eq_planAfter (h : takePrefixes {} s.fetch = (p, bs)) : s.plan = planAfter s.params s.code32 p bs := by
  rw [State.plan, planBytes, h]

theorem step_of_plan_run {i : Instr} {op : Option Word16} (hf : s.cpuFault = none) (hmf : s.mfDue = false)
    (hp : s.plan = .run i inp op len) : step s = resumeOutcome s.irq13 len (exec i (s.latch inp op)) := by
  simp [step, hf, hmf, hp]

theorem step_of_plan_invalidOpcode {op : Word16} (hf : s.cpuFault = none) (hmf : s.mfDue = false)
    (hp : s.plan = .invalidOpcode inp op) : step s = .next ((s.latch inp (some op)).raiseCpu .invalidOpcode) := by
  simp [step, hf, hmf, hp]

theorem step_of_plan_refuse {r : Refusal} (hf : s.cpuFault = none) (hmf : s.mfDue = false) (hp : s.plan = .refuse r) :
    step s = .refused r := by
  simp [step, hf, hmf, hp]

/-! ## The plan of an instruction -/

theorem planAfter_of_ok {d : Decoded} (hd : decode (p.addr code32) bs = .ok d) (hav : available c d.instr = true) :
    planAfter c code32 p bs = .run d.instr (p.inputs code32) (recordedOp bs) (p.len + d.len) := by
  simp [planAfter, hd, hav]

/-- Settles O8: the plan of an admitted instruction is to run it. -/
theorem stepRunsDecoded : Obligations.StepRunsDecoded := fun _ _ _ _ hf hmf htake hd hav =>
  step_of_plan_run hf hmf ((plan_eq_planAfter htake).trans (planAfter_of_ok hd hav))

/-! ## The plan of an undefined encoding -/

/-- The bytes are an undefined encoding of `len` bytes, or an instruction of `len` bytes that the parameters take out of the
table (R126). -/
def NotInTable (c : Params) (a : AddrSize) (esc modrm : Byte) (rest : List Byte) (len : Nat) : Prop :=
  decode a (esc :: modrm :: rest) = .error (.undefined esc modrm len) ∨
    ∃ i, decode a (esc :: modrm :: rest) = .ok ⟨i, len⟩ ∧ available c i = false

theorem planAfter_of_notInTable (h : NotInTable c (p.addr code32) esc modrm rest len) :
    planAfter c code32 p (esc :: modrm :: rest) =
      planUndefined c (p.addr code32) (p.inputs code32) esc modrm (p.len + len) rest := by
  rcases h with hd | ⟨i, hd, hav⟩
  · simp [planAfter, hd]
  · simp [planAfter, hd, hav]

theorem planUndefined_of_lock (h : inp.lock = true) :
    planUndefined c a inp esc modrm len rest = .invalidOpcode inp (x87OpOf esc modrm) := if_pos h

section
variable (h : inp.lock = false)
include h

theorem planUndefined_of_refuse (hb : undefBehaviour c esc modrm = .refuse) :
    planUndefined c a inp esc modrm len rest = .refuse (.undefinedEncoding esc modrm) := by
  simp [planUndefined, h, hb]

theorem planUndefined_of_nop (hb : undefBehaviour c esc modrm = .nop) :
    planUndefined c a inp esc modrm len rest = .run .fnop inp (some (x87OpOf esc modrm)) len := by
  simp [planUndefined, h, hb]

theorem planUndefined_of_ud (hb : undefBehaviour c esc modrm = .ud) :
    planUndefined c a inp esc modrm len rest = .invalidOpcode inp (x87OpOf esc modrm) := by
  simp [planUndefined, h, hb]

theorem planUndefined_of_likeRow {row : Instr} (hb : undefBehaviour c esc modrm = .likeRow row) :
    planUndefined c a inp esc modrm len rest =
      .run (aliasOf a modrm rest row) inp (some (x87OpOf esc modrm)) len := by
  simp [planUndefined, h, hb]

end

/-- An encoding that the list does not name takes REFUSE. -/
theorem undefBehaviour_of_lookup {o : Option UndefBehaviour} (h : c.undefEsc.lookup (esc ++ modrm) = o) :
    undefBehaviour c esc modrm = o.getD .refuse := by
  rw [undefBehaviour, h]
  cases o <;> rfl

/-! ## The row an undefined encoding executes as -/

section
variable {row : Instr} {e r rm : BitVec 3} {m m' : MemOp} {rest' : List Byte}

theorem aliasOf_of_reg (h : opcodeOf row = .reg e r rm) : aliasOf a modrm rest row = withSt (rmOf modrm) row := by
  simp only [aliasOf, h]

theorem aliasOf_of_mem_register (h : opcodeOf row = .mem e r m) (hmod : modOf modrm = 3) :
    aliasOf a modrm rest row = row := by
  simp only [aliasOf, h, if_pos hmod]

/-- A memory row has an entry in the memory table for every operand, so it takes the encoding's. -/
theorem opcodeOf_aliasOf (h : opcodeOf row = .mem e r m) (hmod : modOf modrm ≠ 3)
    (hm : memOp a (modOf modrm) (rmOf modrm) rest = some (m', rest')) :
    opcodeOf (aliasOf a modrm rest row) = .mem e r m' := by
  have hne : memForm e r m' ≠ none := by
    rw [Ne, memForm_eq_none_iff, ← memForm_eq_none_iff m, memForm_eq_some_iff.mpr h]
    nofun
  obtain ⟨i, hi⟩ := Option.ne_none_iff_exists'.mp hne
  simp only [aliasOf, h, if_neg hmod, hm, hi]
  exact memForm_eq_some_iff.mp hi

end

/-- Settles O12: the plan of an undefined encoding is #UD under LOCK, and else the one its behaviour names. -/
theorem undefinedEncodings : Obligations.UndefinedEncodings := by
  intro s p esc modrm rest len hf hmf htake hnot
  have hplan := (plan_eq_planAfter htake).trans (planAfter_of_notInTable hnot)
  refine ⟨fun hl => ?_, fun hl => ⟨fun h => ?_, fun h => ?_, fun h => ?_, fun h => ?_, fun row h => ?_⟩⟩
  · exact step_of_plan_invalidOpcode hf hmf (hplan.trans (planUndefined_of_lock hl))
  · exact step_of_plan_refuse hf hmf (hplan.trans (planUndefined_of_refuse hl (undefBehaviour_of_lookup h)))
  · exact step_of_plan_refuse hf hmf (hplan.trans (planUndefined_of_refuse hl (undefBehaviour_of_lookup h)))
  · exact step_of_plan_run hf hmf (hplan.trans (planUndefined_of_nop hl (undefBehaviour_of_lookup h)))
  · exact step_of_plan_invalidOpcode hf hmf (hplan.trans (planUndefined_of_ud hl (undefBehaviour_of_lookup h)))
  · refine ⟨_, step_of_plan_run hf hmf (hplan.trans (planUndefined_of_likeRow hl (undefBehaviour_of_lookup h))), ?_, ?_, ?_⟩
    · rintro rfl
      rfl
    · exact fun e r rm hop => aliasOf_of_reg hop
    · exact fun e r m hop => ⟨aliasOf_of_mem_register hop, fun m' rest' => opcodeOf_aliasOf hop⟩

/-! ## What the decoder records in `x87_op` -/

/-- What a plan records in `x87_op` where it does not refuse. -/
def Plan.Records (op : Option Word16) : Plan → Prop
  | .run _ _ op' _ => op' = op
  | .invalidOpcode _ op' => some op' = op
  | .refuse _ => True

theorem planUndefined_records (c : Params) (a : AddrSize) (inp : Inputs) (esc modrm : Byte) (len : Nat) (rest : List Byte) :
    (planUndefined c a inp esc modrm len rest).Records (some (x87OpOf esc modrm)) := by
  rcases planUndefined_cases c a inp esc modrm len rest with
    ⟨-, h⟩ | ⟨-, -, h⟩ | ⟨-, -, h⟩ | ⟨row, -, -, h⟩ <;> rw [h]
  case inr.inl => trivial
  all_goals rfl

/-- Every plan of an escape instruction records its escape and ModRM bytes. -/
theorem planAfter_records (hesc : isEscape esc = true) :
    (planAfter c code32 p (esc :: modrm :: rest)).Records (some (x87OpOf esc modrm)) := by
  cases hd : decode (p.addr code32) (esc :: modrm :: rest) with
  | ok d =>
    cases hav : available c d.instr with
    | true =>
      rw [planAfter_of_ok hd hav]
      exact if_pos hesc
    | false =>
      rw [planAfter_of_notInTable (.inr ⟨d.instr, hd, hav⟩)]
      exact planUndefined_records ..
  | error x =>
    rcases decodeEscape_error ((decode_escape hesc).symm.trans hd) with rfl | ⟨n, rfl⟩
    · simp [planAfter, hd, Plan.Records]
    · rw [planAfter_of_notInTable (.inl hd)]
      exact planUndefined_records ..

theorem planAfter_wait (c : Params) (code32 : Bool) (p : Prefixes) (rest : List Byte) :
    planAfter c code32 p (0x9B :: rest) = .run .wait (p.inputs code32) none (p.len + 1) := by
  rw [planAfter_of_ok (d := ⟨.wait, 1⟩) rfl rfl]
  cases rest <;> rfl

/-- No instruction writes `x87_op`, so after a step it is what the plan records. -/
theorem step_x87op {op : Option Word16} (hmf : s.mfDue = false) (hp : s.plan.Records op) (hs : step s = .next t) :
    t.x87op = op.getD s.x87op := by
  rcases step_cases hs with ⟨hd, -⟩ | ⟨i, inp, op', len, u, hplan, he, rfl⟩ | ⟨inp, op', hplan, rfl⟩
  · rw [hmf] at hd
    cases hd
  · rw [hplan] at hp
    obtain rfl : op' = op := hp
    obtain ⟨-, -, -, -, -, -, hop, -⟩ := cpuStateUntouched i _ u he
    exact (resume_x87op ..).trans hop
  · rw [hplan] at hp
    obtain rfl : some op' = op := hp
    rfl

theorem zero_append_escOf (esc : Byte) : 0#5 ++ escOf esc = esc &&& 7 := by
  revert esc
  decide

/-- The recorded word in the form of R112. -/
theorem x87OpOf_eq (esc modrm : Byte) :
    x87OpOf esc modrm = ((esc &&& 7).setWidth 16 <<< 8) ||| modrm.setWidth 16 := by
  change (0#5 ++ escOf esc) ++ modrm = _
  rw [zero_append_escOf]
  ext j hj
  grind

/-- Settles O10: the plan of an escape instruction records its word, and that of WAIT records nothing. -/
theorem recordsOp : Obligations.RecordsOp := by
  constructor
  · intro s t p esc modrm rest _ hmf htake hesc hs
    rw [← x87OpOf_eq]
    exact step_x87op hmf (plan_eq_planAfter htake ▸ planAfter_records hesc) hs
  · intro s t p rest _ hmf htake hs
    refine step_x87op (op := none) hmf ?_ hs
    rw [plan_eq_planAfter htake, planAfter_wait]
    rfl

end Sys2Proof.Machine
end

section
/-! SUPPORT. Rounding against the reals (spec/40_numerics.md R157, R158, R160, R161, R163): the real a magnitude stands for, the
multiple that `roundAt` chooses for it, and what `deliver` makes of that. -/

namespace Sys2Proof.Machine

/-! ## Powers of two and floor(log2) -/

theorem zpow_floorLog2_le {m : ℕ} (hm : m ≠ 0) (e : ℤ) : (2 : ℝ) ^ floorLog2 m e ≤ m * (2 : ℝ) ^ e := by
  rw [floorLog2, zpow_add₀ two_ne_zero, zpow_natCast]
  gcongr
  exact_mod_cast Nat.log2_self_le hm

theorem succ_mul_zpow_le (m : ℕ) (e : ℤ) : ((m : ℝ) + 1) * (2 : ℝ) ^ e ≤ (2 : ℝ) ^ (floorLog2 m e + 1) := by
  rw [floorLog2, add_right_comm, zpow_add₀ two_ne_zero]
  gcongr
  exact_mod_cast Nat.lt_log2_self (n := m)

theorem pow_mul_zpow (n : ℕ) (g : ℤ) : (2 : ℝ) ^ n * (2 : ℝ) ^ g = (2 : ℝ) ^ (n + g) := by
  rw [zpow_add₀ two_ne_zero, zpow_natCast]

theorem zpow_eq_pow_toNat_mul {e g : ℤ} (h : e ≤ g) : (2 : ℝ) ^ g = (2 : ℝ) ^ (g - e).toNat * (2 : ℝ) ^ e := by
  rw [← zpow_natCast, ← zpow_add₀ two_ne_zero, Int.toNat_of_nonneg (by omega), sub_add_cancel]

theorem natCast_add_eq_natCast_iff {a b : ℕ} {s : ℝ} (h0 : 0 ≤ s) (h1 : s < 1) : (b : ℝ) + s = a ↔ b = a ∧ s = 0 := by
  refine ⟨fun h => ?_, by rintro ⟨rfl, rfl⟩; simp⟩
  have hba : b ≤ a := by exact_mod_cast (by linarith : (b : ℝ) ≤ a)
  have hab : a < b + 1 := by exact_mod_cast (by linarith : (a : ℝ) < b + 1)
  obtain rfl : b = a := by omega
  exact ⟨rfl, by linarith⟩

theorem natCast_lt_natCast_add_iff {a b : ℕ} {s : ℝ} (h0 : 0 ≤ s) (h1 : s < 1) :
    (a : ℝ) < b + s ↔ a < b ∨ b = a ∧ s ≠ 0 := by
  constructor
  · intro h
    have hab : a < b + 1 := by exact_mod_cast (by linarith : (a : ℝ) < b + 1)
    rcases (Nat.lt_succ_iff.mp hab).lt_or_eq with hlt | rfl
    · exact .inl hlt
    · exact .inr ⟨rfl, by rintro rfl; simp at h⟩
  · rintro (h | ⟨rfl, h⟩)
    · have : (a : ℝ) < b := by exact_mod_cast h
      linarith
    · linarith [h0.lt_of_ne' h]

/-! ## The real a magnitude stands for -/

/-- A real in units of a magnitude: the magnitude's integer and a fraction, which is not zero exactly for a sticky one. -/
theorem Mag.Stands.exists_fraction {x : Mag} {r : ℝ} (h : x.Stands r) :
    ∃ s : ℝ, r = (x.m + s) * (2 : ℝ) ^ x.e ∧ 0 ≤ s ∧ s < 1 ∧ (x.sticky = true ↔ s ≠ 0) := by
  have hu : (0 : ℝ) < (2 : ℝ) ^ x.e := by positivity
  unfold Mag.Stands at h
  cases hs : x.sticky
  · simp only [hs, Bool.false_eq_true, if_false] at h
    exact ⟨0, by rw [add_zero]; exact h, le_rfl, one_pos, by simp⟩
  · simp only [hs, if_true] at h
    obtain ⟨h1, h2⟩ := h
    have h3 : 0 < r / (2 : ℝ) ^ x.e - x.m := by rw [sub_pos, lt_div_iff₀ hu]; exact h1
    refine ⟨r / (2 : ℝ) ^ x.e - x.m, by field_simp; ring, h3.le, ?_, by simp [h3.ne']⟩
    rw [sub_lt_iff_lt_add', div_lt_iff₀ hu]
    exact h2

theorem Mag.Stands.lower {x : Mag} {r : ℝ} (h : x.Stands r) : x.m * (2 : ℝ) ^ x.e ≤ r := by
  obtain ⟨s, rfl, hs, -⟩ := h.exists_fraction
  gcongr
  linarith

theorem Mag.Stands.upper {x : Mag} {r : ℝ} (h : x.Stands r) : r < (x.m + 1) * (2 : ℝ) ^ x.e := by
  obtain ⟨s, rfl, -, hs, -⟩ := h.exists_fraction
  gcongr

theorem Mag.Stands.lt_zpow {x : Mag} {r : ℝ} (h : x.Stands r) : r < (2 : ℝ) ^ (floorLog2 x.m x.e + 1) :=
  h.upper.trans_le (succ_mul_zpow_le _ _)

theorem Mag.Stands.zpow_le {x : Mag} {r : ℝ} (h : x.Stands r) (hm : x.m ≠ 0) : (2 : ℝ) ^ floorLog2 x.m x.e ≤ r :=
  (zpow_floorLog2_le hm _).trans h.lower

theorem Mag.Stands.zpow_le_iff {x : Mag} {r : ℝ} (h : x.Stands r) (hm : x.m ≠ 0) (k : ℤ) :
    (2 : ℝ) ^ k ≤ r ↔ k ≤ floorLog2 x.m x.e := by
  refine ⟨fun hk => ?_, fun hk => (zpow_le_zpow_right₀ one_le_two hk).trans (h.zpow_le hm)⟩
  exact Int.lt_add_one_iff.mp ((zpow_lt_zpow_iff_right₀ one_lt_two).mp (hk.trans_lt h.lt_zpow))

theorem Mag.stands_mul_zpow (q : ℕ) (g : ℤ) : Mag.Stands ⟨q, g, false⟩ (q * (2 : ℝ) ^ g) := rfl

theorem floorLog2_lt_iff {q : ℕ} {g k : ℤ} (h : q = 0 → g < k) : floorLog2 q g < k ↔ q * (2 : ℝ) ^ g < (2 : ℝ) ^ k := by
  by_cases hq : q = 0
  · subst hq
    simpa [floorLog2, h rfl] using (by positivity : (0 : ℝ) < (2 : ℝ) ^ k)
  · rw [← not_le, ← not_le, (Mag.stands_mul_zpow q g).zpow_le_iff hq]

/-- The same number in another unit. -/
theorem Mag.Stands.scale {x : Mag} {r : ℝ} (h : x.Stands r) (k : ℤ) :
    Mag.Stands { x with e := x.e + k } (r * (2 : ℝ) ^ k) := by
  have hk : (0 : ℝ) < (2 : ℝ) ^ k := by positivity
  unfold Mag.Stands Scaled at *
  dsimp only
  rw [zpow_add₀ two_ne_zero, ← mul_assoc, ← mul_assoc, mul_lt_mul_iff_of_pos_right hk, mul_lt_mul_iff_of_pos_right hk,
    mul_left_inj' hk.ne']
  exact h

/-! ## `roundAt` (R158) -/

/-- The lower neighbour rounds r, where RC does not ask for the upper one. -/
theorem roundsAt_lower {rc : RC} {neg : Bool} {r : ℝ} {q : ℕ} {g : ℤ} {inexact : Bool}
    (hlo : q * (2 : ℝ) ^ g ≤ r) (hhi : r < (q + 1) * (2 : ℝ) ^ g) (hi : inexact = true ↔ q * (2 : ℝ) ^ g ≠ r)
    (hn : rc = .rn → r - q * (2 : ℝ) ^ g ≤ (2 : ℝ) ^ g / 2 ∧ (r - q * (2 : ℝ) ^ g = (2 : ℝ) ^ g / 2 → q % 2 = 0))
    (hdir : inexact = true → ¬(rc = .rd ∧ neg = true) ∧ ¬(rc = .ru ∧ neg = false)) :
    RoundsAt rc neg r ⟨q, g, inexact, false⟩ := by
  have habs : |q * (2 : ℝ) ^ g - r| = r - q * (2 : ℝ) ^ g := by rw [abs_sub_comm, abs_of_nonneg (by linarith)]
  refine ⟨by rw [habs]; linarith, hi, by simpa using hlo, ?_⟩
  have hge : ¬(inexact = true) → r ≤ q * (2 : ℝ) ^ g := fun h => (not_ne_iff.mp (hi.not.mp h)).ge
  cases rc with
  | rn => rw [habs]; exact hn rfl
  | rz => exact hlo
  | rd => cases neg <;> simp_all
  | ru => cases neg <;> simp_all

/-- The upper neighbour of an inexact r rounds it, where RC asks for it. -/
theorem roundsAt_upper {rc : RC} {neg : Bool} {r : ℝ} {q : ℕ} {g : ℤ}
    (hlo : q * (2 : ℝ) ^ g < r) (hhi : r < (q + 1) * (2 : ℝ) ^ g)
    (hn : rc = .rn → (2 : ℝ) ^ g / 2 ≤ r - q * (2 : ℝ) ^ g ∧ (r - q * (2 : ℝ) ^ g = (2 : ℝ) ^ g / 2 → q % 2 = 1))
    (hz : rc ≠ .rz) (hd : rc = .rd → neg = true) (hu : rc = .ru → neg = false) :
    RoundsAt rc neg r ⟨q + 1, g, true, true⟩ := by
  unfold RoundsAt
  dsimp only
  push_cast
  have habs : |((q : ℝ) + 1) * (2 : ℝ) ^ g - r| = (q + 1) * (2 : ℝ) ^ g - r := abs_of_pos (by linarith)
  rw [habs]
  refine ⟨by linarith, by simp [hhi.ne'], by simpa using hhi, ?_⟩
  cases rc with
  | rn =>
    obtain ⟨h1, h2⟩ := hn rfl
    exact ⟨by linarith, fun h => by have := h2 (by linarith); omega⟩
  | rz => exact absurd rfl hz
  | rd => simpa [hd rfl] using hhi.le
  | ru => simpa [hu rfl] using hhi.le

/-- `roundsUp` chooses between the two neighbours as R158 says, given how the part discarded compares with half a unit. -/
theorem roundsAt_of_floor (rc : RC) (neg : Bool) {r : ℝ} {q : ℕ} {g : ℤ} {inexact above half odd : Bool}
    (hlo : q * (2 : ℝ) ^ g ≤ r) (hhi : r < (q + 1) * (2 : ℝ) ^ g) (hi : inexact = true ↔ q * (2 : ℝ) ^ g ≠ r)
    (ha : above = true ↔ (2 : ℝ) ^ g / 2 < r - q * (2 : ℝ) ^ g)
    (hh : above = false → (half = true ↔ r - q * (2 : ℝ) ^ g = (2 : ℝ) ^ g / 2))
    (ho : half = true → (odd = true ↔ q % 2 = 1)) :
    RoundsAt rc neg r ⟨if roundsUp rc neg inexact above half odd then q + 1 else q, g, inexact,
      roundsUp rc neg inexact above half odd⟩ := by
  cases hup : roundsUp rc neg inexact above half odd
  · refine roundsAt_lower hlo hhi hi ?_ ?_
    · rintro rfl
      cases inexact
      · have hr : q * (2 : ℝ) ^ g = r := by simpa using hi
        simp only [Bool.false_eq_true, if_false, hr, sub_self]
        exact ⟨by positivity, fun h => absurd h (by positivity)⟩
      · simp only [roundsUp, Bool.true_and, Bool.or_eq_false_iff, Bool.and_eq_false_iff] at hup
        obtain ⟨rfl, htie⟩ := hup
        refine ⟨not_lt.mp (ha.not.mp Bool.false_ne_true), fun h => ?_⟩
        have hhalf := (hh rfl).mpr h
        have hodd := (ho hhalf).not.mp (by simpa [hhalf] using htie)
        simpa using hodd
    · rintro rfl
      cases rc <;> simp_all [roundsUp]
  · obtain rfl : inexact = true := by simp_all [roundsUp]
    refine roundsAt_upper (hlo.lt_of_ne (hi.mp rfl)) hhi ?_ ?_ ?_ ?_
    · rintro rfl
      cases above
      · have htie : half = true ∧ odd = true := by simpa [roundsUp] using hup
        exact ⟨((hh rfl).mp htie.1).ge, fun _ => (ho htie.1).mp htie.2⟩
      · have := ha.mp rfl
        exact ⟨this.le, fun h => absurd h this.ne'⟩
    all_goals rintro rfl; simp_all [roundsUp]

/-- A unit no coarser than the magnitude's own: exact. -/
theorem Mag.Stands.roundsAt_of_le {x : Mag} {r : ℝ} {g : ℤ} (rc : RC) (neg : Bool) (h : x.Stands r) (hs : x.sticky = false)
    (hg : g ≤ x.e) : RoundsAt rc neg r ⟨x.m <<< (x.e - g).toNat, g, false, false⟩ := by
  have hu : (0 : ℝ) < (2 : ℝ) ^ g / 2 := by positivity
  obtain rfl : r = (x.m <<< (x.e - g).toNat : ℕ) * (2 : ℝ) ^ g := by
    simp only [Mag.Stands, hs, Bool.false_eq_true, if_false] at h
    rw [h, Nat.shiftLeft_eq, zpow_eq_pow_toNat_mul hg]
    push_cast
    ring
  refine roundsAt_lower le_rfl (by linarith) (by simp) (fun _ => ?_) (by simp)
  rw [sub_self]
  exact ⟨hu.le, fun h0 => absurd h0 hu.ne⟩

/-- A unit so coarse that the real is below half of it. -/
theorem Mag.Stands.roundsAt_of_far {x : Mag} {r : ℝ} {g : ℤ} (rc : RC) (neg : Bool) (h : x.Stands r)
    (hg : floorLog2 x.m x.e + 2 < g) :
    let inexact := x.m != 0 || x.sticky
    let up := roundsUp rc neg inexact false false false
    RoundsAt rc neg r ⟨if up then 1 else 0, g, inexact, up⟩ := by
  intro inexact up
  have hlt : r < (2 : ℝ) ^ g / 2 := by
    rw [div_eq_mul_inv, ← zpow_sub_one₀ two_ne_zero]
    exact h.lt_zpow.trans_le (zpow_le_zpow_right₀ one_le_two (by omega))
  have hne : inexact = true ↔ r ≠ 0 := by
    obtain ⟨s, rfl, hs0, hs1, hst⟩ := h.exists_fraction
    have hue : (2 : ℝ) ^ x.e ≠ 0 := by positivity
    rw [mul_ne_zero_iff_right hue, ← Nat.cast_zero, Ne, natCast_add_eq_natCast_iff hs0 hs1]
    simp [inexact, hst, imp_iff_not_or]
  have h0 : 0 ≤ r := le_trans (by positivity) h.lower
  exact roundsAt_of_floor rc neg (q := 0) (by simpa using h0) (by push_cast; linarith) (by simpa using hne.trans ne_comm)
    (by simpa using hlt.le) (by simpa using hlt.ne) (by simp)

/-- Digits are shifted out: they and the sticky bit decide. -/
theorem Mag.Stands.roundsAt_of_shift {x : Mag} {r : ℝ} {sh : ℕ} (rc : RC) (neg : Bool) (h : x.Stands r) (hsh : 0 < sh) :
    let q := x.m >>> sh
    let rem := x.m - (q <<< sh)
    let half := 1 <<< (sh - 1)
    let inexact := rem != 0 || x.sticky
    let up := roundsUp rc neg inexact (decide (half < rem) || (rem == half && x.sticky)) (rem == half) (q % 2 == 1)
    RoundsAt rc neg r ⟨if up then q + 1 else q, x.e + sh, inexact, up⟩ := by
  intro q rem half inexact up
  obtain ⟨s, rfl, hs0, hs1, hst⟩ := h.exists_fraction
  have hue : (0 : ℝ) < (2 : ℝ) ^ x.e := by positivity
  have hq : q = x.m / 2 ^ sh := Nat.shiftRight_eq_div_pow ..
  have hrem : rem = x.m % 2 ^ sh := by rw [Nat.mod_eq_sub_mul_div, mul_comm, ← hq, ← Nat.shiftLeft_eq]
  have hm : x.m = 2 ^ sh * q + rem := by rw [hq, hrem, Nat.div_add_mod]
  have hlt : rem + 1 ≤ 2 ^ sh := hrem ▸ Nat.mod_lt _ (by positivity)
  have hhalf : 2 ^ sh = 2 * half := by
    rw [show half = 2 ^ (sh - 1) from Nat.one_shiftLeft .., ← pow_succ', Nat.sub_add_cancel hsh]
  clear_value q rem half
  have hunit : (2 : ℝ) ^ (x.e + sh) = 2 ^ sh * (2 : ℝ) ^ x.e := by
    rw [zpow_add₀ two_ne_zero, zpow_natCast, mul_comm]
  have hrest : (x.m + s) * (2 : ℝ) ^ x.e - q * (2 : ℝ) ^ (x.e + sh) = (rem + s) * (2 : ℝ) ^ x.e := by
    rw [hunit, hm]
    push_cast
    ring
  have hhalfUnit : (2 : ℝ) ^ (x.e + sh) / 2 = half * (2 : ℝ) ^ x.e := by
    rw [hunit, show (2 : ℝ) ^ sh = 2 * half by exact_mod_cast hhalf]
    ring
  have hltR : (rem : ℝ) + 1 ≤ 2 ^ sh := by exact_mod_cast hlt
  refine roundsAt_of_floor rc neg ?_ ?_ ?_ ?_ ?_ ?_
  · rw [← sub_nonneg, hrest]
    positivity
  · rw [add_one_mul, ← sub_lt_iff_lt_add', hrest, hunit]
    gcongr
    linarith
  · rw [ne_comm, ← sub_ne_zero, hrest, mul_ne_zero_iff_right hue.ne', ← Nat.cast_zero, Ne,
      natCast_add_eq_natCast_iff hs0 hs1]
    simp [inexact, hst, imp_iff_not_or]
  · rw [hrest, hhalfUnit, mul_lt_mul_iff_of_pos_right hue, natCast_lt_natCast_add_iff hs0 hs1]
    simp [hst]
  · rw [hrest, hhalfUnit, mul_left_inj' hue.ne', natCast_add_eq_natCast_iff hs0 hs1]
    have hs : x.sticky = false ↔ s = 0 := by rw [← Bool.not_eq_true, hst, not_not]
    simp +contextual [← hs]
  · simp

/-- `roundAt` chooses the multiple of the unit that R158 states. -/
theorem roundAt_spec (rc : RC) (neg : Bool) {x : Mag} {r : ℝ} {g : ℤ} (h : x.Stands r)
    (hs : x.sticky = true → x.e < g) : RoundsAt rc neg r (roundAt rc neg x g) := by
  unfold roundAt
  split_ifs with hg
  · have hns : x.sticky = false := by
      rw [← Bool.not_eq_true]
      exact fun hst => absurd (hs hst) (not_lt.mpr hg)
    simpa [hns, roundsUp] using h.roundsAt_of_le rc neg hns hg
  · dsimp only
    split
    case isTrue hfar => exact h.roundsAt_of_far rc neg (by unfold floorLog2; omega)
    case isFalse =>
      have := h.roundsAt_of_shift rc neg (sh := (g - x.e).toNat) (by omega)
      rwa [show x.e + ((g - x.e).toNat : ℤ) = g by omega] at this

@[simp] theorem roundAt_g (rc : RC) (neg : Bool) (x : Mag) (g : ℤ) : (roundAt rc neg x g).g = g := by
  unfold roundAt
  dsimp only
  split_ifs <;> rfl

/-! ## `round` and `round'` (R157, R161) -/

/-- `roundTo` rounds in the unit of R157. -/
theorem roundTo_spec {f : Fmt} (rc : RC) (neg : Bool) {x : Mag} {r : ℝ} (hp : 1 ≤ f.p) (hm : x.m ≠ 0) (h : x.Stands r)
    (hs : x.sticky = true → x.e < (roundTo f rc neg x).g) : RoundsIn f rc neg r (roundTo f rc neg x) := by
  have hg : (roundTo f rc neg x).g = max (floorLog2 x.m x.e - (f.p - 1)) (f.emin - (f.p - 1)) := roundAt_g ..
  refine ⟨by rw [hg]; exact le_max_right .., ?_, ?_, roundAt_spec rc neg h (by rwa [hg] at hs)⟩
  · rw [or_iff_not_imp_left, pow_mul_zpow, h.zpow_le_iff hm]
    omega
  · rw [pow_mul_zpow]
    exact h.lt_zpow.trans_le (zpow_le_zpow_right₀ one_le_two (by omega))

theorem log2_ge_of_le {p m : ℕ} (h : 2 ^ p ≤ m) : p ≤ Nat.log2 m :=
  (Nat.le_log2 (by have := Nat.two_pow_pos p; omega)).mpr h

theorem unit_gt_of_sticky {p : ℕ} {x : Mag} (hs : x.sticky = true → 2 ^ p ≤ x.m) (h : x.sticky = true) :
    x.e < floorLog2 x.m x.e - (p - 1) := by
  have := log2_ge_of_le (hs h)
  unfold floorLog2
  omega

theorem roundUnbounded_spec {f : Fmt} (rc : RC) (neg : Bool) {x : Mag} {r : ℝ} (hp : 1 ≤ f.p) (hm : x.m ≠ 0)
    (h : x.Stands r) (hs : x.sticky = true → 2 ^ f.p ≤ x.m) : RoundsUnbounded f rc neg r (roundUnbounded f rc neg x) := by
  have hg : (roundUnbounded f rc neg x).g = floorLog2 x.m x.e - (f.p - 1) := roundAt_g ..
  refine ⟨?_, ?_, roundAt_spec rc neg h (unit_gt_of_sticky hs)⟩
  · rw [pow_mul_zpow, h.zpow_le_iff hm]
    omega
  · rw [pow_mul_zpow]
    exact h.lt_zpow.trans_le (zpow_le_zpow_right₀ one_le_two (by omega))

/-- `roundTo_spec` for a magnitude that has more bits than the destination when it is sticky. -/
theorem roundTo_of_wide {f : Fmt} (rc : RC) (neg : Bool) {x : Mag} {r : ℝ} (hp : 1 ≤ f.p) (hm : x.m ≠ 0) (h : x.Stands r)
    (hs : x.sticky = true → 2 ^ f.p ≤ x.m) : RoundsIn f rc neg r (roundTo f rc neg x) := by
  refine roundTo_spec rc neg hp hm h fun hst => ?_
  rw [roundTo, roundAt_g]
  exact lt_max_of_lt_left (unit_gt_of_sticky hs hst)

/-- A magnitude of at least `2^n` units is rounded to at least `2^n` units. -/
theorem RoundsAt.pow_le {rc : RC} {neg : Bool} {r : ℝ} {y : Rounded} (h : RoundsAt rc neg r y) {n : ℕ}
    (hr : (2 : ℝ) ^ n * (2 : ℝ) ^ y.g ≤ r) : 2 ^ n ≤ y.q := by
  have hu : (0 : ℝ) < (2 : ℝ) ^ y.g := by positivity
  obtain ⟨hd, -⟩ := h
  have hd := (abs_lt.mp hd).1
  have : (2 : ℝ) ^ n < y.q + 1 := by
    rw [← mul_lt_mul_iff_of_pos_right hu]
    linarith
  exact Nat.lt_succ_iff.mp (by exact_mod_cast this)

/-- Only a magnitude below the normal numbers is rounded to zero. -/
theorem RoundsIn.unit_of_zero {f : Fmt} {rc : RC} {neg : Bool} {r : ℝ} {y : Rounded} (h : RoundsIn f rc neg r y)
    (hq : y.q = 0) : y.g = f.emin - (f.p - 1) := by
  obtain ⟨-, hg, -, hr⟩ := h
  refine hg.resolve_right fun hle => ?_
  have := hr.pow_le hle
  have := Nat.two_pow_pos (f.p - 1)
  omega

theorem RoundsUnbounded.ne_zero {f : Fmt} {rc : RC} {neg : Bool} {r : ℝ} {y : Rounded} (h : RoundsUnbounded f rc neg r y) :
    y.q ≠ 0 := by
  obtain ⟨hg, -, hr⟩ := h
  have := hr.pow_le hg
  have := Nat.two_pow_pos (f.p - 1)
  omega

theorem RoundsIn.overflow_iff {f : Fmt} {rc : RC} {neg : Bool} {r : ℝ} {y : Rounded} (h : RoundsIn f rc neg r y)
    (hp : 1 ≤ f.p) (he : f.emin ≤ f.emax) :
    f.emax < floorLog2 y.q y.g ↔ (2 : ℝ) ^ (f.emax + 1) ≤ y.q * (2 : ℝ) ^ y.g := by
  have := floorLog2_lt_iff (q := y.q) (g := y.g) (k := f.emax + 1) fun hq => by rw [h.unit_of_zero hq]; omega
  rw [← not_lt, ← this]
  omega

theorem RoundsIn.below_iff {f : Fmt} {rc : RC} {neg : Bool} {r : ℝ} {y : Rounded} (h : RoundsIn f rc neg r y)
    (hp : 2 ≤ f.p) : floorLog2 y.q y.g < f.emin ↔ y.q * (2 : ℝ) ^ y.g < (2 : ℝ) ^ f.emin :=
  floorLog2_lt_iff fun hq => by rw [h.unit_of_zero hq]; omega

theorem isTiny_iff (t : Tininess) {f : Fmt} (rc : RC) (neg : Bool) {x : Mag} {r : ℝ} (hp : 1 ≤ f.p) (hm : x.m ≠ 0)
    (h : x.Stands r) (hs : x.sticky = true → 2 ^ f.p ≤ x.m) :
    isTiny t f rc neg x = true ↔ Tiny t f r (roundUnbounded f rc neg x) := by
  cases t with
  | afterRounding =>
    have hw := roundUnbounded_spec rc neg hp hm h hs
    simp only [isTiny, Tiny, decide_eq_true_eq]
    exact floorLog2_lt_iff fun hq => absurd hq hw.ne_zero
  | beforeRounding =>
    simp only [isTiny, Tiny, decide_eq_true_eq]
    rw [← not_le, ← not_le, h.zpow_le_iff hm]

theorem overflowsToInf_iff (rc : RC) (neg : Bool) :
    overflowsToInf rc neg = true ↔ rc = .rn ∨ (rc = .rd ∧ neg = true) ∨ (rc = .ru ∧ neg = false) := by
  cases rc <;> simp [overflowsToInf]

/-! ## `deliver` (R160, R161, R163) -/

section Deliver
variable {c : RoundCtx} {neg : Bool} {x : Mag} {r : ℝ}

theorem deliver_of_overflow
    (h : c.fmt.emax < floorLog2 (roundTo c.fmt (rcOf c.cw) neg x).q (roundTo c.fmt (rcOf c.cw) neg x).g) :
    deliver c neg x = deliverOverflow c (rcOf c.cw) neg x := if_pos h

theorem deliver_of_tiny_unmasked
    (h : ¬c.fmt.emax < floorLog2 (roundTo c.fmt (rcOf c.cw) neg x).q (roundTo c.fmt (rcOf c.cw) neg x).g)
    (ht : isTiny c.tininess c.fmt (rcOf c.cw) neg x = true) (hu : maskUM c.cw = false) :
    deliver c neg x = deliverUnmaskedTiny c (rcOf c.cw) neg x := by
  simp [deliver, deliverWith, h, ht, hu]

theorem deliver_of_in_range
    (h : ¬c.fmt.emax < floorLog2 (roundTo c.fmt (rcOf c.cw) neg x).q (roundTo c.fmt (rcOf c.cw) neg x).g)
    (ht : isTiny c.tininess c.fmt (rcOf c.cw) neg x = true → maskUM c.cw = true) :
    let y := roundTo c.fmt (rcOf c.cw) neg x
    let tiny := isTiny c.tininess c.fmt (rcOf c.cw) neg x
    deliver c neg x = ⟨.finite y.q y.g, { ue := tiny && y.inexact, pe := y.inexact }, y.up⟩ := by
  cases ht' : isTiny c.tininess c.fmt (rcOf c.cw) neg x
  · simp [deliver, deliverWith, h, ht']
  · simp [deliver, deliverWith, h, ht', ht ht']

theorem deliverOverflow_masked (rc : RC) (hm : maskOM c.cw = true) :
    let away := rcOf c.cw = .rn ∨ (rcOf c.cw = .rd ∧ neg = true) ∨ (rcOf c.cw = .ru ∧ neg = false)
    (away → deliverOverflow c rc neg x = ⟨.infinity, { oe := true, pe := true }, true⟩) ∧
      (¬away → deliverOverflow c rc neg x =
        ⟨.finite (2 ^ c.fmt.p - 1) (c.fmt.emax - (c.fmt.p - 1)), { oe := true, pe := true }, false⟩) := by
  rw [← overflowsToInf_iff]
  unfold deliverOverflow
  constructor <;> intro h <;> simp [hm, h]

theorem deliverOverflow_register (rc : RC) (hm : maskOM c.cw = false) (hreg : c.toMemory = false) :
    let z := roundTo c.fmt rc neg { x with e := x.e + -24576 }
    deliverOverflow c rc neg x =
      ⟨if c.fmt.emax < floorLog2 z.q z.g then .unstated else .finite z.q z.g, { oe := true, pe := z.inexact }, z.up⟩ := by
  simp [deliverOverflow, hm, hreg, sub_eq_add_neg]

theorem deliverUnmaskedTiny_register (rc : RC) (hreg : c.toMemory = false) :
    let z := roundTo c.fmt rc neg { x with e := x.e + 24576 }
    deliverUnmaskedTiny c rc neg x =
      ⟨if floorLog2 z.q z.g < c.fmt.emin then .unstated else .finite z.q z.g, { ue := true, pe := z.inexact }, z.up⟩ := by
  simp [deliverUnmaskedTiny, hreg]

theorem deliverOverflow_unmasked (rc : RC) (hm : maskOM c.cw = false) (hp : 1 ≤ c.fmt.p) (he : c.fmt.emin ≤ c.fmt.emax)
    (hx : x.m ≠ 0) (h : x.Stands r) (hs : x.sticky = true → 2 ^ c.fmt.p ≤ x.m) :
    let d := deliverOverflow c rc neg x
    let max : ℝ := (2 : ℝ) ^ (c.fmt.emax + 1)
    (c.toMemory = true → d = ⟨.nothing, { oe := true }, false⟩) ∧
      (c.toMemory = false → ∃ z, RoundsIn c.fmt rc neg (r * (2 : ℝ) ^ (-24576 : ℤ)) z ∧
        d.exc = { oe := true, pe := z.inexact } ∧ d.c1 = z.up ∧
        (z.q * (2 : ℝ) ^ z.g < max → d.out = .finite z.q z.g) ∧ (max ≤ z.q * (2 : ℝ) ^ z.g → d.out = .unstated)) := by
  refine ⟨fun hmem => by simp [deliverOverflow, hm, hmem], fun hreg => ?_⟩
  have hz := roundTo_of_wide (x := { x with e := x.e + -24576 }) rc neg hp hx (h.scale (-24576)) hs
  rw [deliverOverflow_register rc hm hreg]
  exact ⟨_, hz, rfl, rfl, fun hlt => if_neg ((hz.overflow_iff hp he).not.mpr (not_le.mpr hlt)),
    fun hle => if_pos ((hz.overflow_iff hp he).mpr hle)⟩

theorem deliverUnmaskedTiny_cases (rc : RC) (hp : 2 ≤ c.fmt.p) (hx : x.m ≠ 0) (h : x.Stands r)
    (hs : x.sticky = true → 2 ^ c.fmt.p ≤ x.m) :
    let d := deliverUnmaskedTiny c rc neg x
    let min : ℝ := (2 : ℝ) ^ c.fmt.emin
    (c.toMemory = true → d = ⟨.nothing, { ue := true }, false⟩) ∧
      (c.toMemory = false → ∃ z, RoundsIn c.fmt rc neg (r * (2 : ℝ) ^ (24576 : ℤ)) z ∧
        d.exc = { ue := true, pe := z.inexact } ∧ d.c1 = z.up ∧
        (min ≤ z.q * (2 : ℝ) ^ z.g → d.out = .finite z.q z.g) ∧ (z.q * (2 : ℝ) ^ z.g < min → d.out = .unstated)) := by
  refine ⟨fun hmem => by simp [deliverUnmaskedTiny, hmem], fun hreg => ?_⟩
  have hz := roundTo_of_wide (x := { x with e := x.e + 24576 }) rc neg (by omega) hx (h.scale 24576) hs
  rw [deliverUnmaskedTiny_register rc hreg]
  exact ⟨_, hz, rfl, rfl, fun hle => if_neg ((hz.below_iff hp).not.mpr (not_lt.mpr hle)),
    fun hlt => if_pos ((hz.below_iff hp).mpr hlt)⟩

end Deliver

end Sys2Proof.Machine
end

section
/-! SUPPORT. The 80-bit pattern (spec/40_numerics.md R151, R159): the fields of one put together, its class in terms of them, and the
value of a packed magnitude. -/

namespace Sys2Proof.Machine

/-! ## Fields -/

theorem mkF80_toNat (neg : Bool) {e m : ℕ} (he : e < 2 ^ 15) (hm : m < 2 ^ 64) :
    (mkF80 neg e m).toNat = (neg.toNat * 2 ^ 15 + e) * 2 ^ 64 + m := by
  unfold mkF80
  rw [BitVec.toNat_append, BitVec.toNat_append, BitVec.toNat_ofNat, BitVec.toNat_ofNat, Nat.mod_eq_of_lt he,
    Nat.mod_eq_of_lt hm, BitVec.toNat_ofBool, ← Nat.shiftLeft_add_eq_or_of_lt hm, ← Nat.shiftLeft_add_eq_or_of_lt he,
    Nat.shiftLeft_eq, Nat.shiftLeft_eq]

theorem expOf_mkF80 (neg : Bool) {e m : ℕ} (he : e < 2 ^ 15) (hm : m < 2 ^ 64) : expOf (mkF80 neg e m) = e := by
  rw [expOf, BitVec.extractLsb'_toNat, mkF80_toNat neg he hm, Nat.shiftRight_eq_div_pow]
  omega

theorem manOf_mkF80 (neg : Bool) {e m : ℕ} (he : e < 2 ^ 15) (hm : m < 2 ^ 64) : (manOf (mkF80 neg e m)).toNat = m := by
  rw [manOf, BitVec.extractLsb'_toNat, mkF80_toNat neg he hm, Nat.shiftRight_eq_div_pow]
  omega

theorem signOf_mkF80 (neg : Bool) (e m : ℕ) : signOf (mkF80 neg e m) = neg := by
  rw [signOf, mkF80, BitVec.getLsbD_append, BitVec.getLsbD_append]
  cases neg <;> rfl

/-! ## Classes -/

theorem isZero_iff (v : F80) : isZero v = true ↔ expOf v = 0 ∧ manOf v = 0 := by
  unfold isZero classOf
  dsimp only
  split_ifs <;> simp_all

theorem isDenormal_iff (v : F80) : isDenormal v = true ↔ expOf v = 0 ∧ manOf v ≠ 0 := by
  unfold isDenormal classOf
  dsimp only
  split_ifs <;> simp_all

theorem isFinite_iff (v : F80) :
    isFinite v = true ↔ expOf v = 0 ∨ expOf v ≠ 0x7FFF ∧ (manOf v).getLsbD 63 = true := by
  unfold isFinite isZero isDenormal classOf
  dsimp only
  split_ifs <;> simp_all

theorem isNan_iff (v : F80) :
    isNan v = true ↔ expOf v = 0x7FFF ∧ (manOf v).getLsbD 63 = true ∧ manOf v ≠ 0x8000000000000000 := by
  unfold isNan classOf
  dsimp only
  split_ifs <;> simp_all

theorem isSnan_iff (v : F80) : isSnan v = true ↔ isNan v = true ∧ (manOf v).getLsbD 62 = false := by
  unfold isSnan isNan classOf
  dsimp only
  split_ifs <;> simp_all

theorem significand_pos {v : F80} (hf : isFinite v = true) (hz : isZero v = false) : (valOf v).m ≠ 0 := by
  intro hm
  have hman : manOf v = 0 := BitVec.eq_of_toNat_eq hm
  rcases (isFinite_iff v).mp hf with he | ⟨-, hb⟩
  · exact Bool.eq_false_iff.mp hz ((isZero_iff v).mpr ⟨he, hman⟩)
  · simp [hman] at hb

theorem not_special_of_finite {v : F80} (hf : isFinite v = true) :
    isUnsupported v = false ∧ isNan v = false ∧ isInf v = false ∧ isSnan v = false := by
  revert hf
  unfold isUnsupported isFinite isZero isDenormal isInf isNan isSnan
  cases classOf v <;> decide

theorem significand_lt (v : F80) : (valOf v).m < 2 ^ 64 := (manOf v).isLt

/-! ## Canonical finite patterns -/

theorem Val.is_iff {v : Val} {r : ℝ} : v.Is r ↔ r = if v.neg then -(v.m * (2 : ℝ) ^ v.e) else v.m * (2 : ℝ) ^ v.e := by
  simp [Val.Is, Scaled]

theorem Val.Is.abs_eq {v : Val} {r : ℝ} (h : v.Is r) : |r| = v.m * (2 : ℝ) ^ v.e := by
  have h0 : (0 : ℝ) ≤ v.m * (2 : ℝ) ^ v.e := by positivity
  rw [Val.is_iff] at h
  subst h
  split_ifs
  · rw [abs_neg, abs_of_nonneg h0]
  · exact abs_of_nonneg h0

theorem Val.Is.eq_zero_iff {v : Val} {r : ℝ} (h : v.Is r) : r = 0 ↔ v.m = 0 := by
  rw [← abs_eq_zero, h.abs_eq, mul_eq_zero, Nat.cast_eq_zero, or_iff_left (by positivity)]

/-- The exponent a pattern with biased exponent E gives its significand (R151). -/
def unitOf (e : ℕ) : ℤ := (if e = 0 then 1 else (e : ℤ)) - 16446

theorem valOf_mkF80 (neg : Bool) {e m : ℕ} (he : e < 2 ^ 15) (hm : m < 2 ^ 64) :
    valOf (mkF80 neg e m) = ⟨neg, m, unitOf e⟩ := by
  simp only [valOf, signOf_mkF80, manOf_mkF80 neg he hm, expOf_mkF80 neg he hm, unitOf]

/-- The biased exponent and the significand of a canonical finite pattern: denormal or zero, or normal. -/
def Canonical (e m : ℕ) : Prop := e = 0 ∧ m < 2 ^ 63 ∨ 1 ≤ e ∧ e < 0x7FFF ∧ 2 ^ 63 ≤ m ∧ m < 2 ^ 64

theorem Canonical.exp_lt {e m : ℕ} (h : Canonical e m) : e < 2 ^ 15 := by unfold Canonical at h; omega

theorem Canonical.man_lt {e m : ℕ} (h : Canonical e m) : m < 2 ^ 64 := by unfold Canonical at h; omega

theorem manOf_getLsbD (v : F80) (k : ℕ) : (manOf v).getLsbD k = (manOf v).toNat.testBit k := rfl

theorem testBit_63 {m : ℕ} (h : m < 2 ^ 64) : m.testBit 63 = decide (2 ^ 63 ≤ m) := by
  rw [Nat.testBit_eq_decide_div_mod_eq, decide_eq_decide]
  omega

theorem Canonical.isFinite {e m : ℕ} (h : Canonical e m) (neg : Bool) : isFinite (mkF80 neg e m) = true := by
  rw [isFinite_iff, manOf_getLsbD, expOf_mkF80 neg h.exp_lt h.man_lt, manOf_mkF80 neg h.exp_lt h.man_lt, testBit_63 h.man_lt,
    decide_eq_true_eq]
  unfold Canonical at h
  omega

theorem Canonical.holds {e m : ℕ} (h : Canonical e m) (neg : Bool) :
    Holds (mkF80 neg e m) (if neg then -(m * (2 : ℝ) ^ unitOf e) else m * (2 : ℝ) ^ unitOf e) := by
  refine ⟨h.isFinite neg, ?_⟩
  rw [Val.is_iff, valOf_mkF80 neg h.exp_lt h.man_lt]

theorem Canonical.not_pseudoDenormal {e m : ℕ} (h : Canonical e m) (neg : Bool) :
    classOf (mkF80 neg e m) ≠ .pseudoDenormal := by
  have hb : (manOf (mkF80 neg e m)).getLsbD 63 = decide (2 ^ 63 ≤ m) := by
    rw [manOf_getLsbD, manOf_mkF80 neg h.exp_lt h.man_lt, testBit_63 h.man_lt]
  unfold classOf
  dsimp only
  rw [hb, expOf_mkF80 neg h.exp_lt h.man_lt]
  unfold Canonical at h
  split_ifs <;> simp_all
  omega

/-! ## `pack` -/

theorem log2_le_of_lt {q k : ℕ} (h : q < 2 ^ (k + 1)) : Nat.log2 q ≤ k := by
  rcases eq_or_ne q 0 with rfl | hq
  · exact Nat.zero_le k
  · exact Nat.lt_succ_iff.mp ((Nat.log2_lt hq).mpr h)

/-- Of `2^(w+1)`, the one number here with more than w + 1 bits, only zeros are shifted out. -/
theorem dvd_of_le_two_pow {w q : ℕ} (h : q ≤ 2 ^ (w + 1)) : 2 ^ (Nat.log2 q - w) ∣ q := by
  rcases h.lt_or_eq with h | rfl
  · rw [Nat.sub_eq_zero_of_le (log2_le_of_lt h), pow_zero]
    exact one_dvd q
  · rw [Nat.log2_two_pow]
    exact pow_dvd_pow 2 (by omega)

/-- A magnitude's digits shifted so that the leading one stands in bit w (R159). -/
def normSig (w q : ℕ) : ℕ := if Nat.log2 q ≤ w then q <<< (w - Nat.log2 q) else q >>> (Nat.log2 q - w)

/-- The shift keeps the value when only zeros are shifted out. -/
theorem normSig_spec {w q : ℕ} (hq : q ≠ 0) (hd : 2 ^ (Nat.log2 q - w) ∣ q) :
    (normSig w q : ℝ) * (2 : ℝ) ^ ((Nat.log2 q : ℤ) - w) = q ∧ 2 ^ w ≤ normSig w q ∧ normSig w q < 2 ^ (w + 1) := by
  have hlo := Nat.log2_self_le hq
  have hhi : q < 2 ^ (Nat.log2 q + 1) := Nat.lt_log2_self
  unfold normSig
  split_ifs with h
  · have hpow : 2 ^ Nat.log2 q * 2 ^ (w - Nat.log2 q) = 2 ^ w := by rw [← pow_add, Nat.add_sub_of_le h]
    rw [Nat.shiftLeft_eq, pow_succ, ← hpow]
    refine ⟨?_, by gcongr, by rw [mul_right_comm]; gcongr; rwa [← pow_succ]⟩
    push_cast
    rw [mul_assoc, ← zpow_natCast, ← zpow_add₀ two_ne_zero, Nat.cast_sub h, sub_add_sub_cancel, sub_self, zpow_zero, mul_one]
  · obtain ⟨k, hk⟩ := hd
    have hl : w ≤ Nat.log2 q := by omega
    have hpow : 2 ^ Nat.log2 q = 2 ^ (Nat.log2 q - w) * 2 ^ w := by rw [← pow_add, Nat.sub_add_cancel hl]
    rw [pow_succ, hpow, mul_assoc, ← pow_succ] at hhi
    rw [hpow] at hlo
    have hpos := Nat.two_pow_pos (Nat.log2 q - w)
    have hk' : q >>> (Nat.log2 q - w) = k := by
      rw [Nat.shiftRight_eq_div_pow]
      exact Nat.div_eq_of_eq_mul_right hpos hk
    rw [hk']
    refine ⟨?_, Nat.le_of_mul_le_mul_left (hlo.trans_eq hk) hpos, Nat.lt_of_mul_lt_mul_left (hk.symm.trans_lt hhi)⟩
    have hq' : (q : ℝ) = 2 ^ (Nat.log2 q - w) * k := by exact_mod_cast hk
    rw [← Nat.cast_sub hl, zpow_natCast, mul_comm, ← hq']

theorem pack_of_normal (neg : Bool) {q : ℕ} {g : ℤ} (hq : q ≠ 0) (hg : -16382 ≤ floorLog2 q g) :
    pack neg q g = mkF80 neg (floorLog2 q g + 16383).toNat (normSig 63 q) := by
  rw [pack, if_neg hq, if_neg (not_lt.mpr hg), normSig]

theorem pack_of_tiny (neg : Bool) {q : ℕ} {g : ℤ} (hq : q ≠ 0) (hg : floorLog2 q g < -16382) :
    pack neg q g = mkF80 neg 0 (q <<< (g + 16445).toNat) := by
  rw [pack, if_neg hq, if_pos hg]

theorem shiftLeft_lt_pow {q k n : ℕ} (h : Nat.log2 q + k < n) : q <<< k < 2 ^ n := by
  rw [Nat.shiftLeft_eq]
  calc q * 2 ^ k < 2 ^ (Nat.log2 q + 1) * 2 ^ k := by gcongr; exact Nat.lt_log2_self
    _ = 2 ^ (Nat.log2 q + 1 + k) := (pow_add ..).symm
    _ ≤ 2 ^ n := Nat.pow_le_pow_right two_pos (by omega)

theorem shiftLeft_mul_zpow (q : ℕ) {g a : ℤ} (h : a ≤ g) :
    ((q <<< (g - a).toNat : ℕ) : ℝ) * (2 : ℝ) ^ a = q * (2 : ℝ) ^ g := by
  rw [Nat.shiftLeft_eq, zpow_eq_pow_toNat_mul h]
  push_cast
  ring

theorem shiftLeft_mul_zpow_sub (q k : ℕ) (g : ℤ) : ((q <<< k : ℕ) : ℝ) * (2 : ℝ) ^ (g - k) = q * (2 : ℝ) ^ g := by
  rw [← shiftLeft_mul_zpow q (g := g) (a := g - k) (by omega), sub_sub_cancel, Int.toNat_natCast]

/-- A magnitude of at most 64 bits, from the least denormal up to the largest number, packs into a canonical pattern of its
value, a normal one unless it is zero or tiny (R159). -/
theorem pack_canonical (neg : Bool) {q : ℕ} {g : ℤ} (hd : 2 ^ (Nat.log2 q - 63) ∣ q) (hlo : -16445 ≤ g)
    (hhi : floorLog2 q g ≤ 16383) :
    ∃ e m, pack neg q g = mkF80 neg e m ∧ Canonical e m ∧ m * (2 : ℝ) ^ unitOf e = q * (2 : ℝ) ^ g ∧
      (q ≠ 0 → -16382 ≤ floorLog2 q g → e ≠ 0) := by
  rcases eq_or_ne q 0 with rfl | hq
  · exact ⟨0, 0, rfl, .inl ⟨rfl, by positivity⟩, by simp, fun h => absurd rfl h⟩
  rcases lt_or_ge (floorLog2 q g) (-16382) with ht | hn
  · refine ⟨_, _, pack_of_tiny neg hq ht, .inl ⟨rfl, shiftLeft_lt_pow ?_⟩, ?_, fun _ h => absurd ht (not_lt.mpr h)⟩
    · unfold floorLog2 at ht
      omega
    · exact shiftLeft_mul_zpow q (a := -16445) hlo
  · obtain ⟨hval, hm1, hm2⟩ := normSig_spec hq hd
    refine ⟨_, _, pack_of_normal neg hq hn, .inr ⟨by omega, by omega, hm1, hm2⟩, ?_, fun _ _ => by omega⟩
    rw [← hval, mul_assoc, ← zpow_add₀ two_ne_zero]
    congr 2
    unfold unitOf floorLog2 at *
    rw [if_neg (by omega)]
    omega

theorem pack_holds (neg : Bool) {q : ℕ} {g : ℤ} (hd : 2 ^ (Nat.log2 q - 63) ∣ q) (hlo : -16445 ≤ g)
    (hhi : floorLog2 q g ≤ 16383) : Holds (pack neg q g) (if neg then -(q * (2 : ℝ) ^ g) else q * (2 : ℝ) ^ g) := by
  obtain ⟨e, m, hp, hc, hv, -⟩ := pack_canonical neg hd hlo hhi
  rw [hp, ← hv]
  exact hc.holds neg

theorem signOf_pack (neg : Bool) (q : ℕ) (g : ℤ) : signOf (pack neg q g) = neg := by
  unfold pack
  split_ifs <;> exact signOf_mkF80 ..

/-! ## A register result -/

theorem infinityOf_eq (neg : Bool) : infinityOf neg = infF80 neg := by cases neg <;> decide

theorem zeroOf_eq (neg : Bool) : zeroOf neg = zeroF80 neg := by cases neg <;> decide

theorem deliver_ne_nothing {c : RoundCtx} (hc : c.toMemory = false) (neg : Bool) (x : Mag) :
    (deliver c neg x).out ≠ .nothing := by
  unfold deliver deliverWith deliverOverflow deliverUnmaskedTiny
  dsimp only
  split_ifs <;> simp_all

theorem roundReg_eq_deliver (c : NumCtx) (neg : Bool) (x : Mag) :
    let d := deliver ⟨c.cw, c.tininess, ⟨c.p, -16382, 16383⟩, false⟩ neg x
    let r := roundReg c neg x
    r.exc = d.exc ∧ r.c1 = d.c1 ∧ (∀ q g, d.out = .finite q g → r.v = pack neg q g) ∧
      (d.out = .infinity → r.v = infinityOf neg) ∧ (d.out = .unstated → r.v = c.free) ∧ d.out ≠ .nothing := by
  intro d r
  have hr : r = d.toResult neg c.free := rfl
  rw [hr, infinityOf_eq]
  unfold Delivery.toResult
  refine ⟨by split <;> rfl, by split <;> rfl, fun q g h => ?_, fun h => ?_, fun h => ?_, deliver_ne_nothing rfl neg x⟩ <;> rw [h]

/-- Settles O55: the rounding is `roundAt_spec` in the unit of R157, and each response of `deliver` follows from it. -/
theorem roundsAndDelivers : Obligations.RoundsAndDelivers := by
  refine ⟨fun f rc neg x r hp hm h hs => roundTo_spec rc neg hp hm h hs, ?_, ?_, roundReg_eq_deliver⟩
  · intro c neg x r hp he hm h hs rc y w d v max min away
    have hp1 : 1 ≤ c.fmt.p := by omega
    have hover := (roundTo_of_wide rc neg hp1 hm h hs).overflow_iff hp1 he
    have htiny := isTiny_iff c.tininess rc neg hp1 hm h hs
    refine ⟨roundUnbounded_spec rc neg hp1 hm h hs, fun hv => ?_, fun hv => ?_⟩
    · rw [show d = _ from deliver_of_overflow (hover.mpr hv)]
      exact ⟨deliverOverflow_masked rc, fun hom => deliverOverflow_unmasked rc hom hp1 he hm h hs⟩
    have hin := hover.not.mpr (not_le.mpr hv)
    refine ⟨fun ht => ?_, fun ht => ⟨fun hum => ?_, fun hum => ?_⟩⟩
    · have ht' : isTiny c.tininess c.fmt rc neg x = false := Bool.eq_false_iff.mpr (htiny.not.mpr ht)
      rw [show d = _ from deliver_of_in_range hin fun h => absurd (ht'.symm.trans h) Bool.false_ne_true, ht']
      rfl
    · rw [show d = _ from deliver_of_in_range hin fun _ => hum, htiny.mpr ht]
      rfl
    · rw [show d = _ from deliver_of_tiny_unmasked hin (htiny.mpr ht) hum]
      exact deliverUnmaskedTiny_cases rc hp hm h hs
  · intro neg q g hq hlo hhi
    have hd := dvd_of_le_two_pow (w := 63) hq
    obtain ⟨e, m, hp, hc, -⟩ := pack_canonical neg hd hlo hhi
    exact ⟨pack_holds neg hd hlo hhi, signOf_pack neg q g, hp ▸ hc.not_pseudoDenormal neg⟩

end Sys2Proof.Machine
end

section
/-! SUPPORT. The exact results that are rounded (spec/40_numerics.md R164, R180 to R183): each kernel's magnitude stands for the
real sum, product, quotient or square root. -/

namespace Sys2Proof.Machine

/-- A magnitude stands for a real of its integer part and a fraction that is not zero exactly when it is sticky. -/
theorem Mag.stands_of_fraction {x : Mag} {r s : ℝ} (hr : r = (x.m + s) * (2 : ℝ) ^ x.e) (h0 : 0 ≤ s) (h1 : s < 1)
    (hs : x.sticky = true ↔ s ≠ 0) : x.Stands r := by
  subst hr
  unfold Mag.Stands
  split_ifs with h
  · have hpos : 0 < s := h0.lt_of_ne' (hs.mp h)
    constructor <;> gcongr
    linarith
  · rw [Scaled, not_not.mp (hs.not.mp h), add_zero]

/-! ## The sum (R164, R180) -/

theorem Val.Is.scaledInt {v : Val} {r : ℝ} (h : v.Is r) {g : ℤ} (hg : g ≤ v.e) : (scaledInt v g : ℝ) * (2 : ℝ) ^ g = r := by
  rw [Val.is_iff] at h
  rw [h, ← shiftLeft_mul_zpow v.m hg]
  unfold Machine.scaledInt
  split_ifs <;> simp only [Int.cast_neg, Int.cast_natCast, neg_mul]

/-- The integer that `addVal` rounds: the two values summed in the finer of their units. -/
def sumInt (a b : Val) : ℤ := scaledInt a (min a.e b.e) + scaledInt b (min a.e b.e)

theorem sumInt_mul_zpow {a b : Val} {ra rb : ℝ} (ha : a.Is ra) (hb : b.Is rb) :
    (sumInt a b : ℝ) * (2 : ℝ) ^ min a.e b.e = ra + rb := by
  rw [← ha.scaledInt (min_le_left _ b.e), ← hb.scaledInt (min_le_right a.e _), ← add_mul, sumInt, Int.cast_add]

theorem addVal_eq (c : NumCtx) (a b : Val) :
    addVal c a b =
      if sumInt a b = 0 then Result.exact (zeroF80 (zeroSumSign (rcOf c.cw) a b))
      else roundReg c (decide (sumInt a b < 0)) ⟨(sumInt a b).natAbs, min a.e b.e, false⟩ := rfl

theorem addVal_rounds (c : NumCtx) {a b : Val} {ra rb : ℝ} (ha : a.Is ra) (hb : b.Is rb) (h : ra + rb ≠ 0) :
    ∃ x : Mag, addVal c a b = roundReg c (decide (ra + rb < 0)) x ∧ x.Stands |ra + rb| ∧ x.sticky = false := by
  have hu : (0 : ℝ) < (2 : ℝ) ^ min a.e b.e := by positivity
  rw [← sumInt_mul_zpow ha hb] at h ⊢
  have hneg : decide (sumInt a b < 0) = decide ((sumInt a b : ℝ) * (2 : ℝ) ^ min a.e b.e < 0) := by
    simp [mul_neg_iff, hu, hu.not_gt]
  refine ⟨_, by rw [addVal_eq, if_neg fun h0 => h (by simp [h0]), hneg], ?_, rfl⟩
  rw [abs_mul, abs_of_pos hu]
  exact congrArg (· * _) (by rw [← Int.cast_abs, Int.abs_eq_natAbs]; rfl)

theorem addVal_zero (c : NumCtx) {a b : Val} {ra rb : ℝ} (ha : a.Is ra) (hb : b.Is rb) (h : ra + rb = 0) :
    addVal c a b = ⟨zeroOf (if ra = 0 ∧ a.neg = b.neg then a.neg else rcOf c.cw == .rd), Exc.clear, false⟩ := by
  have h0 : sumInt a b = 0 := by
    have hsum := sumInt_mul_zpow ha hb
    rw [h, mul_eq_zero, Int.cast_eq_zero] at hsum
    exact hsum.resolve_right (by positivity)
  have hsign : (a.m = 0 ∧ b.m = 0 ∧ a.neg = b.neg) ↔ ra = 0 ∧ a.neg = b.neg := by
    rw [← ha.eq_zero_iff, ← hb.eq_zero_iff, ← and_assoc, and_congr_left_iff]
    intro _
    constructor
    · exact And.left
    · rintro rfl
      exact ⟨rfl, by linarith⟩
  rw [addVal_eq, if_pos h0, zeroOf_eq, zeroSumSign]
  simp only [hsign, Result.exact]

/-! ## The quotient (R182) -/

/-- An integer quotient with its remainder in the sticky bit stands for the rational one. -/
theorem div_stands (n : ℕ) {d : ℕ} (hd : d ≠ 0) (g : ℤ) : Mag.Stands ⟨n / d, g, n % d != 0⟩ (n / d * (2 : ℝ) ^ g) := by
  have hd' : (0 : ℝ) < d := by exact_mod_cast Nat.pos_of_ne_zero hd
  have hdiv : (n : ℝ) = d * (n / d : ℕ) + (n % d : ℕ) := by exact_mod_cast (Nat.div_add_mod ..).symm
  refine Mag.stands_of_fraction (s := ((n % d : ℕ) : ℝ) / d) ?_ (by positivity) ?_ (by simp [hd])
  · conv_lhs => rw [hdiv]
    rw [add_div, mul_div_cancel_left₀ _ hd'.ne']
  · rw [div_lt_one hd']
    exact_mod_cast Nat.mod_lt _ (Nat.pos_of_ne_zero hd)

theorem shifted_quotient_stands (am : ℕ) {bm : ℕ} (ae be : ℤ) (hb : bm ≠ 0) (k : ℕ) :
    Mag.Stands ⟨am <<< k / bm, ae - be - k, am <<< k % bm != 0⟩ (am * (2 : ℝ) ^ ae / (bm * (2 : ℝ) ^ be)) := by
  have h := div_stands (am <<< k) hb (ae - be - k)
  rwa [div_mul_eq_mul_div, shiftLeft_mul_zpow_sub, zpow_sub₀ two_ne_zero, mul_div_assoc', div_div, mul_comm _ (bm : ℝ)] at h

/-- The quotient stands for the real one, to more bits than any destination has. (Lean would compute the shift by the model's 132
to see whether the magnitude is sticky, so the shift is a variable here.) -/
theorem quotient_spec {am bm : ℕ} (ae be : ℤ) (ha : am ≠ 0) (hb : bm ≠ 0) (hlt : bm < 2 ^ 64) :
    ∃ x : Mag, quotient am ae bm be = x ∧ x.Stands (am * (2 : ℝ) ^ ae / (bm * (2 : ℝ) ^ be)) ∧ 2 ^ 66 ≤ x.m := by
  obtain ⟨k, hk⟩ : ∃ k, k = 132 := ⟨132, rfl⟩
  refine ⟨_, ?_, shifted_quotient_stands am ae be hb k, ?_⟩
  · rw [hk]
    rfl
  · rw [Nat.le_div_iff_mul_le (Nat.pos_of_ne_zero hb), Nat.shiftLeft_eq, hk]
    omega

/-! ## The square root (R183) -/

/-- The bit-by-bit search keeps a root in its interval, which it halves. -/
theorem isqrtFrom_spec {n : ℕ} : ∀ {k r : ℕ}, r * r ≤ n → n < (r + 2 ^ k) * (r + 2 ^ k) →
    isqrtFrom n k r * isqrtFrom n k r ≤ n ∧ n < (isqrtFrom n k r + 1) * (isqrtFrom n k r + 1)
  | 0, _, hlo, hhi => ⟨hlo, hhi⟩
  | k + 1, r, hlo, hhi => by
    unfold isqrtFrom
    dsimp only
    split_ifs with h
    · exact isqrtFrom_spec h (by rwa [add_assoc, ← two_mul, ← pow_succ'])
    · exact isqrtFrom_spec hlo (not_le.mp h)

theorem isqrt_eq_sqrt {n : ℕ} (h : n < 2 ^ 200) : isqrt n = Nat.sqrt n :=
  Nat.eq_sqrt.mpr (isqrtFrom_spec (Nat.zero_le n) (by norm_num at h ⊢; exact h))

theorem rootMag_eq (m : ℕ) (e : ℤ) (hm : m < 2 ^ 64) :
    ∃ (k : ℕ) (f : ℤ), (k = 132 ∨ k = 133) ∧ 2 * f = e - k ∧
      rootMag m e = ⟨Nat.sqrt (m <<< k), f, Nat.sqrt (m <<< k) * Nat.sqrt (m <<< k) != m <<< k⟩ := by
  refine ⟨if e % 2 = 0 then 132 else 133, (e - (if e % 2 = 0 then 132 else 133 : ℕ)) / 2, ?_, ?_, ?_⟩
  · split_ifs <;> simp
  · split_ifs <;> push_cast <;> omega
  · unfold rootMag
    dsimp only
    rw [isqrt_eq_sqrt]
    rw [Nat.shiftLeft_eq]
    split_ifs <;> omega

theorem rootMag_stands {m : ℕ} (e : ℤ) (hm : m < 2 ^ 64) : (rootMag m e).Stands (Real.sqrt (m * (2 : ℝ) ^ e)) := by
  obtain ⟨k, f, -, hf, hroot⟩ := rootMag_eq m e hm
  rw [hroot]
  have hscale : m * (2 : ℝ) ^ e = (m <<< k : ℕ) * ((2 : ℝ) ^ f) ^ 2 := by
    rw [← shiftLeft_mul_zpow_sub m k e, ← zpow_natCast _ 2, ← zpow_mul, ← hf, mul_comm 2 f]
    rfl
  rw [hscale, Real.sqrt_mul (Nat.cast_nonneg _), Real.sqrt_sq (by positivity)]
  generalize m <<< k = n
  refine Mag.stands_of_fraction (s := Real.sqrt n - Nat.sqrt n) (by dsimp only; ring) (sub_nonneg.mpr Real.nat_sqrt_le_real_sqrt)
    (sub_lt_iff_lt_add'.mpr Real.real_sqrt_lt_nat_sqrt_succ) ?_
  rw [bne_iff_ne, sub_ne_zero, Ne, Ne, not_iff_not, Real.sqrt_eq_iff_mul_self_eq (Nat.cast_nonneg _) (Nat.cast_nonneg _)]
  exact_mod_cast eq_comm

theorem rootMag_wide {m : ℕ} (e : ℤ) (h0 : m ≠ 0) (hm : m < 2 ^ 64) : 2 ^ 65 ≤ (rootMag m e).m := by
  obtain ⟨k, f, hk, -, hroot⟩ := rootMag_eq m e hm
  rw [hroot]
  show 2 ^ 65 ≤ Nat.sqrt (m <<< k)
  rw [Nat.le_sqrt, Nat.shiftLeft_eq]
  rcases hk with rfl | rfl <;> omega

/-! ## Products, quotients and roots of values -/

theorem mulVal_rounds (c : NumCtx) {a b : Val} {ra rb : ℝ} (ha : a.Is ra) (hb : b.Is rb) (h : ra * rb ≠ 0) :
    ∃ x : Mag, mulVal c a b = roundReg c (a.neg != b.neg) x ∧ x.Stands |ra * rb| ∧ x.sticky = false := by
  obtain ⟨hra, hrb⟩ := mul_ne_zero_iff.mp h
  refine ⟨_, if_neg (not_or.mpr ⟨ha.eq_zero_iff.not.mp hra, hb.eq_zero_iff.not.mp hrb⟩), ?_, rfl⟩
  rw [abs_mul, ha.abs_eq, hb.abs_eq, mul_mul_mul_comm, ← zpow_add₀ two_ne_zero, ← Nat.cast_mul]
  exact Mag.stands_mul_zpow _ _

theorem mulVal_zero (c : NumCtx) {a b : Val} {ra rb : ℝ} (ha : a.Is ra) (hb : b.Is rb) (h : ra * rb = 0) :
    mulVal c a b = ⟨zeroOf (a.neg != b.neg), Exc.clear, false⟩ := by
  rw [mul_eq_zero, ha.eq_zero_iff, hb.eq_zero_iff] at h
  rw [zeroOf_eq]
  exact if_pos h

theorem divVal_rounds (c : NumCtx) {a b : Val} {ra rb : ℝ} (ha : a.Is ra) (hb : b.Is rb) (hra : ra ≠ 0) (hrb : rb ≠ 0)
    (hlt : b.m < 2 ^ 64) :
    ∃ x : Mag, divVal c a b = roundReg c (a.neg != b.neg) x ∧ x.Stands |ra / rb| ∧ 2 ^ 66 ≤ x.m := by
  have ham := ha.eq_zero_iff.not.mp hra
  have hbm := hb.eq_zero_iff.not.mp hrb
  obtain ⟨x, hx, hst, hw⟩ := quotient_spec a.e b.e ham hbm hlt
  refine ⟨x, by rw [divVal, if_neg ham, hx], ?_, hw⟩
  rwa [abs_div, ha.abs_eq, hb.abs_eq]

theorem divVal_zero (c : NumCtx) {a : Val} (b : Val) {ra : ℝ} (ha : a.Is ra) (h : ra = 0) :
    divVal c a b = ⟨zeroOf (a.neg != b.neg), Exc.clear, false⟩ := by
  rw [zeroOf_eq]
  exact if_pos (ha.eq_zero_iff.mp h)

theorem sqrtResult_of_positive (c : NumCtx) {v : F80} (hf : isFinite v = true) (hz : isZero v = false)
    (hs : signOf v = false) :
    sqrtResult c v = (roundReg c false (rootMag (valOf v).m (valOf v).e)).withDE (isDenormal v) := by
  obtain ⟨hu, hn, hi, -⟩ := not_special_of_finite hf
  simp [sqrtResult, hu, hn, hi, hz, hs]

/-- Settles O56: each kernel's magnitude stands for the exact real, by the lemmas above. -/
theorem exactBeforeRounding : Obligations.ExactBeforeRounding := by
  refine ⟨fun c a b ra rb ha hb => ⟨addVal_rounds c ha hb, fun h => ⟨fun h0 hs => ?_, fun h0 => ?_⟩, mulVal_rounds c ha hb,
    mulVal_zero c ha hb, divVal_rounds c ha hb, fun h _ => divVal_zero c b ha h, fun h0 hlt => ⟨?_, rootMag_wide a.e h0 hlt⟩⟩,
    fun c v hf hz hs => ⟨significand_pos hf hz, significand_lt v, sqrtResult_of_positive c hf hz hs⟩⟩
  · rw [addVal_zero c ha hb h, if_pos ⟨h0, hs⟩]
  · rw [addVal_zero c ha hb h, if_neg (by tauto)]
  · rw [ha.abs_eq]
    exact rootMag_stands a.e hlt

end Sys2Proof.Machine
end

section
/-! SUPPORT. `RNDINT_RC` and what rests on it (spec/40_numerics.md R156, R171, R174; spec/42_arithmetic.md R297, R298): integer loads
and stores, FRNDINT and FSCALE. -/

namespace Sys2Proof.Machine

/-! ## RNDINT -/

/-- The signed integer `RNDINT_RC` of a value (R174). -/
def rndintInt (rc : RC) (v : Val) : ℤ := if v.neg then -((rndint rc v).q : ℤ) else (rndint rc v).q

theorem Val.Is.stands_abs {v : Val} {r : ℝ} (h : v.Is r) : Mag.Stands ⟨v.m, v.e, false⟩ |r| := by
  rw [h.abs_eq]
  exact Mag.stands_mul_zpow _ _

theorem Val.Is.eq_abs {v : Val} {r : ℝ} (h : v.Is r) : r = if v.neg then -|r| else |r| := by
  rw [h.abs_eq]
  exact Val.is_iff.mp h

theorem rndint_roundsAt (rc : RC) {v : Val} {r : ℝ} (h : v.Is r) : RoundsAt rc v.neg |r| (rndint rc v) :=
  roundAt_spec rc v.neg h.stands_abs (by simp)

/-- An exact multiple of the unit is rounded to itself. -/
theorem roundAt_exact (rc : RC) (neg : Bool) {x : Mag} {q : ℕ} {g : ℤ} (hs : x.sticky = false)
    (h : x.Stands (q * (2 : ℝ) ^ g)) : roundAt rc neg x g = ⟨q, g, false, false⟩ := by
  have hu : (0 : ℝ) < (2 : ℝ) ^ g := by positivity
  obtain ⟨hd, hi, hup, -⟩ := roundAt_spec rc neg (g := g) h (by simp [hs])
  generalize hy : roundAt rc neg x g = y at *
  obtain ⟨yq, yg, yi, yu⟩ := y
  obtain rfl : yg = g := by simpa [hy] using roundAt_g rc neg x g
  dsimp only at *
  obtain rfl : yq = q := by
    rw [← sub_mul, abs_mul, abs_of_pos hu, mul_lt_iff_lt_one_left hu] at hd
    have hz : |(yq : ℤ) - q| < 1 := by exact_mod_cast hd
    have := Int.abs_lt_one_iff.mp hz
    omega
  obtain rfl : yi = false := by simpa using hi
  obtain rfl : yu = false := by simpa using hup
  rfl

theorem rndint_of_abs_eq (rc : RC) {v : Val} {r : ℝ} {q : ℕ} (h : v.Is r) (hq : |r| = q) :
    rndint rc v = ⟨q, 0, false, false⟩ :=
  roundAt_exact rc v.neg rfl (by rw [zpow_zero, mul_one, ← hq]; exact h.stands_abs)

theorem eq_floor_of_le {x : ℝ} {n : ℤ} (h : |x - n| < 1) (hle : n ≤ x) : n = ⌊x⌋ :=
  (Int.floor_eq_iff.mpr ⟨hle, by linarith [(abs_lt.mp h).2]⟩).symm

theorem eq_ceil_of_ge {x : ℝ} {n : ℤ} (h : |x - n| < 1) (hge : x ≤ n) : n = ⌈x⌉ :=
  (Int.ceil_eq_iff.mpr ⟨by linarith [(abs_lt.mp h).1], hge⟩).symm

/-- The multiple of one that R158 chooses for a magnitude, with the sign, is the integer of R174. -/
theorem roundsInt_of_roundsAt {rc : RC} {neg : Bool} {a : ℝ} {y : Rounded} (ha : 0 ≤ a) (hg : y.g = 0)
    (h : RoundsAt rc neg a y) : RoundsInt rc (if neg then -a else a) (if neg then -(y.q : ℤ) else y.q) := by
  obtain ⟨hd, -, -, hrc⟩ := h
  simp only [hg, zpow_zero, mul_one] at hd hrc
  have hq : (0 : ℝ) ≤ y.q := Nat.cast_nonneg _
  have habs : |(if neg then -a else a) - ((if neg then -(y.q : ℤ) else y.q : ℤ) : ℝ)| = |y.q - a| := by
    cases neg
    · exact abs_sub_comm ..
    · rw [if_pos rfl, if_pos rfl, Int.cast_neg, Int.cast_natCast, neg_sub_neg]
  rw [← habs] at hd
  cases rc with
  | rn =>
    obtain ⟨hhalf, htie⟩ := hrc
    rw [RoundsInt, habs]
    exact ⟨hhalf, fun h => by have := htie h; split <;> omega⟩
  | rd => exact eq_floor_of_le hd (by cases neg <;> simpa using hrc)
  | ru => exact eq_ceil_of_ge hd (by cases neg <;> simpa using hrc)
  | rz =>
    have hle : (y.q : ℝ) ≤ a := hrc
    cases neg
    · exact ⟨fun _ => eq_floor_of_le hd hle, fun h => eq_ceil_of_ge hd (h.trans hq)⟩
    · refine ⟨fun h => eq_floor_of_le hd ?_, fun _ => eq_ceil_of_ge hd (by simpa using hle)⟩
      have h0 : a = 0 := by
        rw [if_pos rfl] at h
        linarith
      simp [h0]

theorem rndintInt_spec (rc : RC) {v : Val} {r : ℝ} (h : v.Is r) : RoundsInt rc r (rndintInt rc v) := by
  have := roundsInt_of_roundsAt (abs_nonneg r) (roundAt_g ..) (rndint_roundsAt rc h)
  rwa [← h.eq_abs] at this

theorem abs_rndintInt (rc : RC) (v : Val) : |(rndintInt rc v : ℝ)| = (rndint rc v).q := by
  unfold rndintInt
  split_ifs <;> simp

theorem rndint_inexact_iff (rc : RC) {v : Val} {r : ℝ} (h : v.Is r) :
    (rndint rc v).inexact = true ↔ (rndintInt rc v : ℝ) ≠ r := by
  obtain ⟨-, hi, -⟩ := rndint_roundsAt rc h
  rw [hi, show (rndint rc v).g = 0 from roundAt_g .., zpow_zero, mul_one]
  conv_rhs => rw [h.eq_abs]
  unfold rndintInt
  split_ifs <;> simp

theorem rndint_up_iff (rc : RC) {v : Val} {r : ℝ} (h : v.Is r) :
    (rndint rc v).up = true ↔ |r| < |(rndintInt rc v : ℝ)| := by
  obtain ⟨-, -, hup, -⟩ := rndint_roundsAt rc h
  rw [hup, show (rndint rc v).g = 0 from roundAt_g .., zpow_zero, mul_one, abs_rndintInt]

/-! ## Packed integers -/

theorem pack_integer_holds (neg : Bool) {q : ℕ} (hq : q ≤ 2 ^ 64) : Holds (pack neg q 0) (if neg then -(q : ℝ) else q) := by
  have hl : Nat.log2 q ≤ 64 := log2_le_of_lt (by omega)
  have h := pack_holds neg (g := 0) (dvd_of_le_two_pow (w := 63) hq) (by norm_num) (by unfold floorLog2; omega)
  simpa using h

theorem rndint_pack (rc : RC) (neg : Bool) {q : ℕ} (hq : q ≤ 2 ^ 64) :
    rndint rc (valOf (pack neg q 0)) = ⟨q, 0, false, false⟩ := by
  obtain ⟨-, hv⟩ := pack_integer_holds neg hq
  refine rndint_of_abs_eq rc hv ?_
  split_ifs <;> simp

/-! ## Integer stores (R171) -/

/-- STORE_INT where `RNDINT_RC` has an image of N bits. -/
theorem storeInt_in_range (cw : Word16) {N : ℕ} {v : F80} (hf : isFinite v = true) {y : Rounded}
    (hy : rndint (rcOf cw) (valOf v) = y) (h : if signOf v then y.q ≤ 2 ^ (N - 1) else y.q < 2 ^ (N - 1)) :
    storeInt cw N v = ⟨some (twosComplement N (signOf v) y.q), { pe := y.inexact }, y.up⟩ := by
  have hneg : (valOf v).neg = signOf v := rfl
  unfold storeInt
  rw [if_pos hf]
  dsimp only
  rw [hy, hneg, if_neg]
  cases hs : signOf v <;> simp_all

theorem storeInt_out_of_range (cw : Word16) {N : ℕ} {v : F80} (hf : isFinite v = true) {y : Rounded}
    (hy : rndint (rcOf cw) (valOf v) = y) (h : ¬if signOf v then y.q ≤ 2 ^ (N - 1) else y.q < 2 ^ (N - 1)) :
    storeInt cw N v = ⟨some (2 ^ (N - 1)), Exc.invalid, false⟩ := by
  have hneg : (valOf v).neg = signOf v := rfl
  unfold storeInt intIndefinite
  rw [if_pos hf, Nat.one_shiftLeft]
  dsimp only
  rw [hy, hneg, if_pos]
  cases hs : signOf v <;> simp_all

theorem storeInt_not_finite (cw : Word16) (N : ℕ) {v : F80} (hf : isFinite v = false) :
    storeInt cw N v = ⟨some (2 ^ (N - 1)), Exc.invalid, false⟩ := by
  simp [storeInt, hf, intIndefinite, Nat.one_shiftLeft]

theorem rndintInt_valOf (rc : RC) (v : F80) :
    rndintInt rc (valOf v) = if signOf v then -((rndint rc (valOf v)).q : ℤ) else (rndint rc (valOf v)).q := rfl

/-- In range, for the signed integer and for its magnitude, where one negative number more is in range. -/
theorem rndintInt_in_range_iff (rc : RC) (v : F80) (k : ℕ) :
    (-2 ^ k ≤ rndintInt rc (valOf v) ∧ rndintInt rc (valOf v) < 2 ^ k) ↔
      if signOf v then (rndint rc (valOf v)).q ≤ 2 ^ k else (rndint rc (valOf v)).q < 2 ^ k := by
  rw [rndintInt_valOf]
  have hp : (0 : ℤ) < 2 ^ k := by positivity
  split_ifs
  · rw [← Nat.cast_le (α := ℤ)]
    push_cast
    omega
  · rw [← Nat.cast_lt (α := ℤ)]
    push_cast
    omega

theorem twosComplement_eq {N q : ℕ} {neg : Bool} (hN : 0 < N) (h : if neg then q ≤ 2 ^ (N - 1) else q < 2 ^ (N - 1)) :
    twosComplement N neg q = ((if neg then -(q : ℤ) else q) % 2 ^ N).toNat := by
  have hpow : 2 ^ N = 2 * 2 ^ (N - 1) := by rw [← pow_succ', Nat.sub_add_cancel hN]
  unfold twosComplement
  split_ifs at h ⊢
  · have hle : q ≤ 2 ^ N := by omega
    have hmod : -(q : ℤ) % 2 ^ N = ((2 ^ N - q : ℕ) : ℤ) % ((2 ^ N : ℕ) : ℤ) := by
      push_cast [hle]
      rw [sub_eq_neg_add, Int.add_emod_right]
    rw [hmod, ← Int.natCast_mod, Int.toNat_natCast]
  · have hlt : q < 2 ^ N := by omega
    rw [Int.emod_eq_of_lt (by positivity) (by exact_mod_cast hlt), Int.toNat_natCast]

theorem storeInt_stores (cw : Word16) {N : ℕ} (hN : 0 < N) {v : F80} {rv : ℝ} (h : Holds v rv) :
    ∃ n : ℤ, RoundsInt (rcOf cw) rv n ∧
      (n < -2 ^ (N - 1) ∨ 2 ^ (N - 1) ≤ n → storeInt cw N v = ⟨some (2 ^ (N - 1)), Exc.invalid, false⟩) ∧
      (-2 ^ (N - 1) ≤ n → n < 2 ^ (N - 1) → StoresInt (storeInt cw N v) (n % 2 ^ N).toNat rv n) := by
  obtain ⟨hf, hv⟩ := h
  have hrange := rndintInt_in_range_iff (rcOf cw) v (N - 1)
  refine ⟨_, rndintInt_spec (rcOf cw) hv, fun hout => ?_, fun hlo hhi => ?_⟩
  · refine storeInt_out_of_range cw hf rfl (hrange.not.mp ?_)
    rintro ⟨hlo, hhi⟩
    omega
  · have hin := hrange.mp ⟨hlo, hhi⟩
    rw [storeInt_in_range cw hf rfl hin, twosComplement_eq hN hin]
    exact ⟨rfl, rfl, rndint_inexact_iff (rcOf cw) hv, rndint_up_iff (rcOf cw) hv⟩

theorem loadInt_storeInt (cw : Word16) {N n : ℕ} (hN : 0 < N) (hN' : N ≤ 64) (h : n < 2 ^ N) :
    Holds (loadInt N n) (if n < 2 ^ (N - 1) then (n : ℝ) else (n : ℝ) - 2 ^ N) ∧
      storeInt cw N (loadInt N n) = ⟨some n, Exc.clear, false⟩ := by
  have hpow : 2 ^ N = 2 * 2 ^ (N - 1) := by rw [← pow_succ', Nat.sub_add_cancel hN]
  have h64 : 2 ^ N ≤ 2 ^ 64 := Nat.pow_le_pow_right two_pos hN'
  unfold loadInt
  split_ifs with hlt
  · refine ⟨pack_integer_holds false (by omega), ?_⟩
    rw [storeInt_in_range cw (pack_integer_holds false (by omega)).1 (rndint_pack _ _ (by omega)) (by simpa [signOf_pack])]
    simp [signOf_pack, twosComplement, Exc.clear]
  · have hq : 2 ^ N - n ≤ 2 ^ (N - 1) := by omega
    refine ⟨by simpa [h.le] using pack_integer_holds true (q := 2 ^ N - n) (by omega), ?_⟩
    rw [storeInt_in_range cw (pack_integer_holds true (by omega)).1 (rndint_pack _ _ (by omega))
      (by rw [signOf_pack, if_pos rfl]; exact hq), signOf_pack, twosComplement, if_pos rfl, Nat.sub_sub_self h.le,
      Nat.mod_eq_of_lt h]
    rfl

/-! ## FRNDINT and FSCALE (R297, R298) -/

theorem isZero_of_ne_zero {v : F80} {r : ℝ} (h : Holds v r) (hr : r ≠ 0) : isZero v = false := by
  obtain ⟨-, hv⟩ := h
  refine Bool.eq_false_iff.mpr fun hz => hv.eq_zero_iff.not.mp hr ?_
  have := ((isZero_iff v).mp hz).2
  exact congrArg BitVec.toNat this

theorem rndintResult_eq (c : NumCtx) {a : F80} {ra : ℝ} (h : Holds a ra) (hr : ra ≠ 0) :
    let y := rndint (rcOf c.cw) (valOf a)
    rndintResult c a = ⟨pack (signOf a) y.q 0, { de := isDenormal a, pe := y.inexact }, y.up⟩ := by
  obtain ⟨hu, hn, hi, -⟩ := not_special_of_finite h.1
  simp [rndintResult, hu, hn, hi, isZero_of_ne_zero h hr, Result.withDE, Exc.union, Exc.denormalIf]

theorem valOf_exp_le (v : F80) (h : isFinite v = true) : (valOf v).e ≤ 16320 := by
  have hlt : expOf v < 2 ^ 15 := (v.extractLsb' 64 15).isLt
  have hne : expOf v ≠ 0x7FFF := by
    rcases (isFinite_iff v).mp h with h0 | ⟨hne, -⟩
    · omega
    · exact hne
  simp only [valOf]
  split_ifs <;> omega

/-- `RNDINT_RC` of a finite value can be packed: it has at most 64 significant bits. -/
theorem rndint_packs (rc : RC) {v : F80} {r : ℝ} (h : Holds v r) :
    2 ^ (Nat.log2 (rndint rc (valOf v)).q - 63) ∣ (rndint rc (valOf v)).q ∧ floorLog2 (rndint rc (valOf v)).q 0 ≤ 16383 := by
  obtain ⟨hf, hv⟩ := h
  have hm := significand_lt v
  have he := valOf_exp_le v hf
  unfold floorLog2
  rcases le_or_gt 0 (valOf v).e with h0 | h0
  · have hq : rndint rc (valOf v) = ⟨(valOf v).m <<< ((valOf v).e - 0).toNat, 0, false, false⟩ := by
      refine rndint_of_abs_eq rc hv ?_
      rw [hv.abs_eq, ← shiftLeft_mul_zpow _ h0, zpow_zero, mul_one]
    have hlog : Nat.log2 ((valOf v).m <<< ((valOf v).e - 0).toNat) ≤ 63 + ((valOf v).e - 0).toNat :=
      log2_le_of_lt (shiftLeft_lt_pow (by have := log2_le_of_lt (k := 63) hm; omega))
    rw [hq]
    refine ⟨?_, by dsimp only; omega⟩
    dsimp only at hlog ⊢
    generalize Nat.log2 _ = l at hlog ⊢
    rw [Nat.shiftLeft_eq]
    exact (pow_dvd_pow 2 (by omega)).mul_left _
  · have hle : (rndint rc (valOf v)).q ≤ (valOf v).m := by
      obtain ⟨hd, -⟩ := rndint_roundsAt rc hv
      rw [show (rndint rc (valOf v)).g = 0 from roundAt_g .., zpow_zero, mul_one, hv.abs_eq] at hd
      have hp : (2 : ℝ) ^ (valOf v).e ≤ 1 := zpow_le_one_of_nonpos₀ one_le_two h0.le
      have hmul := mul_le_of_le_one_right (Nat.cast_nonneg (α := ℝ) (valOf v).m) hp
      have hlt : ((rndint rc (valOf v)).q : ℝ) < (valOf v).m + 1 := by linarith [(abs_lt.mp hd).2]
      exact Nat.lt_succ_iff.mp (by exact_mod_cast hlt)
    have := log2_le_of_lt (k := 63) (hle.trans_lt hm)
    exact ⟨dvd_of_le_two_pow (w := 63) (by omega), by omega⟩

theorem rndintResult_rounds (c : NumCtx) {a : F80} {ra : ℝ} (h : Holds a ra) (hr : ra ≠ 0) :
    ∃ n : ℤ, RoundsInt (rcOf c.cw) ra n ∧
      let r := rndintResult c a
      Holds r.v n ∧ signOf r.v = signOf a ∧ r.exc = { de := isDenormal a, pe := r.exc.pe } ∧
        (r.exc.pe = true ↔ (n : ℝ) ≠ ra) ∧ (r.c1 = true ↔ |ra| < |(n : ℝ)|) := by
  obtain ⟨hd, hlog⟩ := rndint_packs (rcOf c.cw) h
  refine ⟨_, rndintInt_spec (rcOf c.cw) h.2, ?_⟩
  dsimp only
  rw [rndintResult_eq c h hr]
  refine ⟨?_, signOf_pack .., rfl, rndint_inexact_iff (rcOf c.cw) h.2, rndint_up_iff (rcOf c.cw) h.2⟩
  have hp := pack_holds (signOf a) hd (by norm_num) hlog
  rw [zpow_zero, mul_one] at hp
  rw [rndintInt_valOf]
  push_cast
  exact hp

theorem truncInt_eq (b : Val) : truncInt b = rndintInt .rz b := rfl

theorem scaleResult_rounds (c : NumCtx) {a b : F80} {ra rb : ℝ} (ha : Holds a ra) (hr : ra ≠ 0) (hb : Holds b rb) :
    ∃ n : ℤ, RoundsInt .rz rb n ∧
      scaleResult c a b =
        (roundReg c (signOf a) ⟨(valOf a).m, (valOf a).e + n, false⟩).withDE (isDenormal a || isDenormal b) := by
  obtain ⟨hua, hna, hia, -⟩ := not_special_of_finite ha.1
  obtain ⟨hub, hnb, hib, -⟩ := not_special_of_finite hb.1
  refine ⟨_, rndintInt_spec .rz hb.2, ?_⟩
  simp only [scaleResult, scaleF, hua, hna, hia, hub, hnb, hib, isZero_of_ne_zero ha hr, truncInt_eq, Bool.or_self,
    Bool.and_self, Bool.false_and, Bool.false_eq_true, if_false]
  rfl

end Sys2Proof.Machine
end

section
/-! SUPPORT. Decimal images (spec/20_memory.md R84; spec/40_numerics.md R172, R173). -/

namespace Sys2Proof.Machine

/-! ## Digits -/

/-- The first k digits of a number in a base, the least significant first. -/
def digitsOf (base : ℕ) : ℕ → ℕ → List ℕ
  | 0, _ => []
  | k + 1, n => n % base :: digitsOf base k (n / base)

@[simp] theorem length_digitsOf (base : ℕ) : ∀ k n, (digitsOf base k n).length = k
  | 0, _ => rfl
  | k + 1, n => by simp [digitsOf, length_digitsOf base k]

theorem digitsOf_lt {base : ℕ} (hb : 0 < base) : ∀ k n, ∀ d ∈ digitsOf base k n, d < base
  | 0, _ => by simp [digitsOf]
  | k + 1, n => by simpa [digitsOf] using ⟨Nat.mod_lt n hb, digitsOf_lt hb k (n / base)⟩

theorem placeValue_digitsOf (base : ℕ) : ∀ k n, placeValue base (digitsOf base k n) = n % base ^ k
  | 0, n => by simp [digitsOf, placeValue, Nat.mod_one]
  | k + 1, n => by rw [digitsOf, placeValue, placeValue_digitsOf base k, Nat.pow_succ', Nat.mod_mul]

/-- Reading the digits of a number that begins with them. -/
theorem digitsOf_placeValue {base : ℕ} : ∀ {ds : List ℕ}, (∀ d ∈ ds, d < base) → ∀ t,
    digitsOf base ds.length (placeValue base ds + base ^ ds.length * t) = ds
  | [], _, _ => rfl
  | d :: ds, h, t => by
    obtain ⟨hd, hds⟩ := List.forall_mem_cons.mp h
    have hn : placeValue base (d :: ds) + base ^ (d :: ds).length * t =
        d + base * (placeValue base ds + base ^ ds.length * t) := by
      rw [placeValue, List.length_cons, pow_succ']
      ring
    rw [hn, List.length_cons, digitsOf, Nat.add_mul_mod_self_left, Nat.mod_eq_of_lt hd,
      Nat.add_mul_div_left _ _ (by omega), Nat.div_eq_of_lt hd, zero_add, digitsOf_placeValue hds]

theorem placeValue_lt {base : ℕ} : ∀ {ds : List ℕ}, (∀ d ∈ ds, d < base) → placeValue base ds < base ^ ds.length
  | [], _ => by simp [placeValue]
  | d :: ds, h => by
    obtain ⟨hd, hds⟩ := List.forall_mem_cons.mp h
    have := placeValue_lt hds
    rw [placeValue, List.length_cons, pow_succ']
    calc d + base * placeValue base ds < base * (placeValue base ds + 1) := by rw [mul_add_one]; omega
      _ ≤ base * base ^ ds.length := Nat.mul_le_mul_left _ this

/-! ## The model's digits -/

theorem bcdDigits_eq : ∀ k n, bcdDigits k n = digitsOf 16 k n
  | 0, _ => rfl
  | k + 1, n => by rw [bcdDigits, digitsOf, bcdDigits_eq k]

theorem digitsValue_eq : ∀ ds, digitsValue ds = placeValue 10 ds
  | [] => rfl
  | d :: ds => by rw [digitsValue, placeValue, digitsValue_eq ds]

theorem packBcd_eq : ∀ k n, packBcd k n = placeValue 16 (digitsOf 10 k n)
  | 0, _ => rfl
  | k + 1, n => by rw [packBcd, digitsOf, placeValue, packBcd_eq k]

/-! ## Images -/

/-- The sign and the ignored bits of an image stand above its 18 digits. -/
theorem bcdImage_eq (neg : Bool) (ignored : ℕ) (ds : List ℕ) :
    bcdImage neg ignored ds = placeValue 16 ds + 16 ^ 18 * ((if neg then 2 ^ 7 else 0) + ignored) := by
  unfold bcdImage
  cases neg <;> simp <;> omega

theorem loadBcd_bcdImage (neg : Bool) {ignored : ℕ} {ds : List ℕ} (hi : ignored < 2 ^ 7) (hl : ds.length = 18)
    (hd : ∀ d ∈ ds, d < 16) :
    loadBcd (bcdImage neg ignored ds) = if ∀ d ∈ ds, d ≤ 9 then some (pack neg (placeValue 10 ds) 0) else none := by
  have hlt : placeValue 16 ds < 16 ^ 18 := hl ▸ placeValue_lt hd
  have hdig : bcdDigits 18 (bcdImage neg ignored ds) = ds := by
    rw [bcdDigits_eq, bcdImage_eq, ← hl, digitsOf_placeValue hd]
  have hsign : (bcdImage neg ignored ds).testBit 79 = neg := by
    rw [bcdImage_eq, Nat.testBit_eq_decide_div_mod_eq]
    cases neg <;> simp <;> omega
  unfold loadBcd
  simp only [hdig, hsign, digitsValue_eq, List.all_eq_true, decide_eq_true_eq]

theorem storeBcd_in_range (cw : Word16) {v : F80} (hf : isFinite v = true) {y : Rounded}
    (hy : rndint (rcOf cw) (valOf v) = y) (h : y.q < 10 ^ 18) :
    storeBcd cw v = ⟨some (bcdImage (signOf v) 0 (digitsOf 10 18 y.q)), { pe := y.inexact }, y.up⟩ := by
  have hneg : (valOf v).neg = signOf v := rfl
  unfold storeBcd
  rw [if_pos hf]
  dsimp only
  rw [hy, hneg, if_neg (by omega), packBcd_eq, bcdImage, Nat.zero_mul, Nat.add_zero]

theorem storeBcd_out_of_range (cw : Word16) {v : F80} (hf : isFinite v = true)
    (h : 10 ^ 18 ≤ (rndint (rcOf cw) (valOf v)).q) :
    storeBcd cw v = ⟨some 0xFFFFC000000000000000, Exc.invalid, false⟩ := by
  unfold storeBcd
  rw [if_pos hf]
  exact if_pos (by omega)

theorem storeBcd_not_finite (cw : Word16) {v : F80} (hf : isFinite v = false) :
    storeBcd cw v = ⟨some 0xFFFFC000000000000000, Exc.invalid, false⟩ := by
  simp [storeBcd, hf, bcdIndefinite]

theorem loadBcd_storeBcd (neg : Bool) {ignored : ℕ} {ds : List ℕ} (hi : ignored < 2 ^ 7) (hl : ds.length = 18)
    (hd : ∀ d ∈ ds, d ≤ 9) :
    ∃ v, loadBcd (bcdImage neg ignored ds) = some v ∧
      Holds v (if neg then -(placeValue 10 ds : ℝ) else placeValue 10 ds) ∧ signOf v = neg ∧
      ∀ cw, storeBcd cw v = ⟨some (bcdImage neg 0 ds), Exc.clear, false⟩ := by
  have h10 : ∀ d ∈ ds, d < 10 := fun d h => Nat.lt_succ_iff.mpr (hd d h)
  have hlt : placeValue 10 ds < 10 ^ 18 := hl ▸ placeValue_lt h10
  have hq : placeValue 10 ds ≤ 2 ^ 64 := by omega
  have hdig : digitsOf 10 18 (placeValue 10 ds) = ds := by simpa [hl] using digitsOf_placeValue h10 0
  have hv := pack_integer_holds neg hq
  refine ⟨_, (loadBcd_bcdImage neg hi hl fun d h => by have := hd d h; omega).trans (if_pos hd), hv, signOf_pack .., fun cw => ?_⟩
  rw [storeBcd_in_range cw hv.1 (rndint_pack _ neg hq) hlt, signOf_pack, hdig]
  rfl

theorem storeBcd_stores (cw : Word16) {v : F80} {rv : ℝ} (h : Holds v rv) :
    ∃ n : ℤ, RoundsInt (rcOf cw) rv n ∧
      (10 ^ 18 ≤ |n| → storeBcd cw v = ⟨some 0xFFFFC000000000000000, Exc.invalid, false⟩) ∧
      (|n| < 10 ^ 18 → ∃ ds : List Nat, ds.length = 18 ∧ (∀ d ∈ ds, d ≤ 9) ∧ (placeValue 10 ds : ℤ) = |n| ∧
        StoresInt (storeBcd cw v) (bcdImage (signOf v) 0 ds) rv n) := by
  obtain ⟨hf, hv⟩ := h
  have habs : |rndintInt (rcOf cw) (valOf v)| = (rndint (rcOf cw) (valOf v)).q := by exact_mod_cast abs_rndintInt (rcOf cw) (valOf v)
  refine ⟨_, rndintInt_spec (rcOf cw) hv, fun hout => ?_, fun hin => ?_⟩
  · rw [habs] at hout
    exact storeBcd_out_of_range cw hf (by exact_mod_cast hout)
  · rw [habs] at hin ⊢
    have hq : (rndint (rcOf cw) (valOf v)).q < 10 ^ 18 := by exact_mod_cast hin
    refine ⟨digitsOf 10 18 (rndint (rcOf cw) (valOf v)).q, length_digitsOf .., fun d hd => ?_, ?_, ?_⟩
    · exact Nat.lt_succ_iff.mp (digitsOf_lt (by norm_num) _ _ d hd)
    · rw [placeValue_digitsOf, Nat.mod_eq_of_lt hq]
    · rw [storeBcd_in_range cw hf rfl hq]
      exact ⟨rfl, rfl, rndint_inexact_iff (rcOf cw) hv, rndint_up_iff (rcOf cw) hv⟩

end Sys2Proof.Machine
end

section
/-! SUPPORT. The images of m32fp and m64fp (spec/20_memory.md R83; spec/40_numerics.md R152, R155, R159, R170): their fields, what
loading one gives, and what storing gives back. -/

namespace Sys2Proof.Machine

/-! ## Fields of an image (R83) -/

section Fields
variable {f : MemFp} {neg : Bool} {e frac : ℕ}

theorem MemFp.pack_eq (f : MemFp) (neg : Bool) (e frac : ℕ) :
    f.pack neg e frac = (neg.toNat * (f.expMax + 1) + e) * 2 ^ f.frac + frac := by
  cases neg <;> simp [MemFp.pack, Nat.shiftLeft_eq, add_mul]

theorem MemFp.pow_bits (f : MemFp) : 2 ^ (8 * f.bytes - 1) = 2 ^ f.frac * (f.expMax + 1) := by cases f <;> rfl

theorem MemFp.pow_bytes (f : MemFp) : 2 ^ (8 * f.bytes) = 2 * 2 ^ (8 * f.bytes - 1) := by cases f <;> rfl

theorem MemFp.pack_div (hf : frac < 2 ^ f.frac) : f.pack neg e frac / 2 ^ f.frac = neg.toNat * (f.expMax + 1) + e := by
  rw [MemFp.pack_eq, mul_comm, Nat.mul_add_div (by positivity), Nat.div_eq_of_lt hf, Nat.add_zero]

theorem MemFp.pack_exp (he : e ≤ f.expMax) (hf : frac < 2 ^ f.frac) :
    f.pack neg e frac / 2 ^ f.frac % (f.expMax + 1) = e := by
  rw [MemFp.pack_div hf, mul_comm, Nat.mul_add_mod, Nat.mod_eq_of_lt (Nat.lt_succ_of_le he)]

theorem MemFp.pack_frac (hf : frac < 2 ^ f.frac) : f.pack neg e frac % 2 ^ f.frac = frac := by
  rw [MemFp.pack_eq, mul_comm, Nat.mul_add_mod, Nat.mod_eq_of_lt hf]

theorem MemFp.pack_div_bits (he : e ≤ f.expMax) (hf : frac < 2 ^ f.frac) :
    f.pack neg e frac / 2 ^ (8 * f.bytes - 1) = neg.toNat := by
  rw [MemFp.pow_bits, ← Nat.div_div_eq_div_mul, MemFp.pack_div hf, mul_comm, Nat.mul_add_div (Nat.succ_pos _),
    Nat.div_eq_of_lt (Nat.lt_succ_of_le he), Nat.add_zero]

theorem MemFp.pack_sign (he : e ≤ f.expMax) (hf : frac < 2 ^ f.frac) :
    (f.pack neg e frac).testBit (8 * f.bytes - 1) = neg := by
  rw [Nat.testBit_eq_decide_div_mod_eq, MemFp.pack_div_bits he hf]
  cases neg <;> rfl

theorem MemFp.pack_lt (he : e ≤ f.expMax) (hf : frac < 2 ^ f.frac) : f.pack neg e frac < 2 ^ (8 * f.bytes) := by
  rw [MemFp.pow_bytes, ← Nat.div_lt_iff_lt_mul (by positivity), MemFp.pack_div_bits he hf]
  exact neg.toNat_lt

end Fields

/-- Every image is put together from its fields. -/
theorem MemFp.exists_pack {f : MemFp} {m : ℕ} (hm : m < 2 ^ (8 * f.bytes)) :
    ∃ neg e frac, e ≤ f.expMax ∧ frac < 2 ^ f.frac ∧ m = f.pack neg e frac := by
  refine ⟨decide (m / 2 ^ (8 * f.bytes - 1) = 1), m / 2 ^ f.frac % (f.expMax + 1), m % 2 ^ f.frac,
    Nat.lt_succ_iff.mp (Nat.mod_lt _ (Nat.succ_pos _)), Nat.mod_lt _ (by positivity), ?_⟩
  rw [MemFp.pow_bytes, ← Nat.div_lt_iff_lt_mul (by positivity)] at hm
  have hsign : (decide (m / 2 ^ (8 * f.bytes - 1) = 1)).toNat = m / 2 ^ f.frac / (f.expMax + 1) := by
    rw [Nat.div_div_eq_div_mul, ← MemFp.pow_bits]
    generalize m / 2 ^ (8 * f.bytes - 1) = b at *
    interval_cases b <;> rfl
  rw [MemFp.pack_eq, hsign, mul_comm (m / 2 ^ f.frac / (f.expMax + 1)), Nat.div_add_mod, mul_comm, Nat.div_add_mod]

/-! ## Bit 62 -/

theorem or_two_pow (n k : ℕ) : n ||| 2 ^ k = if n / 2 ^ k % 2 = 1 then n else n + 2 ^ k := by
  have hdiv : (n ||| 2 ^ k) / 2 ^ k = n / 2 ^ k ||| 1 := by rw [Nat.or_div_two_pow, Nat.div_self (by positivity)]
  have hmod : (n ||| 2 ^ k) % 2 ^ k = n % 2 ^ k := by rw [Nat.or_mod_two_pow, Nat.mod_self, Nat.or_zero]
  have hhigh : (n / 2 ^ k ||| 1) = if n / 2 ^ k % 2 = 1 then n / 2 ^ k else n / 2 ^ k + 1 := by
    have h1 := Nat.or_div_two (a := n / 2 ^ k) (b := 1)
    rw [show 1 / 2 = 0 from rfl, Nat.or_zero] at h1
    have h2 := Nat.or_mod_two_eq_one (a := n / 2 ^ k) (b := 1)
    split_ifs <;> omega
  rw [← Nat.div_add_mod (n ||| 2 ^ k) (2 ^ k), hdiv, hmod, hhigh]
  split_ifs
  · exact Nat.div_add_mod ..
  · rw [mul_add_one, add_right_comm, Nat.div_add_mod]

/-- The digits above bit k stay. -/
theorem add_or_two_pow (a n k : ℕ) : (2 ^ (k + 1) * a + n) ||| 2 ^ k = 2 ^ (k + 1) * a + (n ||| 2 ^ k) := by
  have hbit : (2 ^ (k + 1) * a + n) / 2 ^ k % 2 = n / 2 ^ k % 2 := by
    rw [pow_succ, mul_assoc, Nat.mul_add_div (by positivity), Nat.mul_add_mod]
  rw [or_two_pow, or_two_pow, hbit]
  split_ifs
  · rfl
  · exact Nat.add_assoc ..

theorem quiet_mkF80 (neg : Bool) {e m : ℕ} (he : e < 2 ^ 15) (hm : m < 2 ^ 64) :
    quiet (mkF80 neg e m) = mkF80 neg e (m ||| 2 ^ 62) := by
  have hm' : m ||| 2 ^ 62 < 2 ^ 64 := Nat.or_lt_two_pow hm (by norm_num)
  apply BitVec.eq_of_toNat_eq
  have hq : (mkF80 neg e m).toNat = 2 ^ (62 + 1) * (2 * (neg.toNat * 2 ^ 15 + e)) + m := by
    rw [mkF80_toNat neg he hm]
    ring
  rw [quiet, BitVec.toNat_or, BitVec.toNat_twoPow, Nat.mod_eq_of_lt (by norm_num), hq, add_or_two_pow, mkF80_toNat neg he hm']
  ring

/-! ## NaNs (R155, R170) -/

/-- The NaN with the given fraction of 63 bits. -/
def nanF80 (neg : Bool) (fraction : ℕ) : F80 := mkF80 neg 0x7FFF (2 ^ 63 + fraction)

section Nan
variable {neg : Bool} {n : ℕ}

theorem signOf_nanF80 : signOf (nanF80 neg n) = neg := signOf_mkF80 ..

theorem manOf_nanF80 (hn : n < 2 ^ 63) : (manOf (nanF80 neg n)).toNat = 2 ^ 63 + n :=
  manOf_mkF80 neg (by norm_num) (by omega)

theorem isNan_nanF80 (h0 : n ≠ 0) (hn : n < 2 ^ 63) : isNan (nanF80 neg n) = true := by
  rw [isNan_iff, manOf_getLsbD, manOf_nanF80 hn, testBit_63 (by omega), decide_eq_true_eq]
  refine ⟨expOf_mkF80 neg (by norm_num) (by omega), by omega, fun h => ?_⟩
  have h63 : 2 ^ 63 + n = 2 ^ 63 := (manOf_nanF80 hn).symm.trans (congrArg BitVec.toNat h)
  omega

theorem isSnan_nanF80 (h0 : n ≠ 0) (hn : n < 2 ^ 63) : isSnan (nanF80 neg n) = decide (n < 2 ^ 62) := by
  rw [Bool.eq_iff_iff, isSnan_iff, manOf_getLsbD, manOf_nanF80 hn, Nat.testBit_eq_decide_div_mod_eq]
  simp only [isNan_nanF80 h0 hn, true_and, decide_eq_false_iff_not, decide_eq_true_eq]
  omega

theorem quiet_nanF80 (hn : n < 2 ^ 63) : quiet (nanF80 neg n) = nanF80 neg (n ||| 2 ^ 62) := by
  rw [nanF80, nanF80, quiet_mkF80 neg (by norm_num) (by omega)]
  exact congrArg _ (add_or_two_pow 1 n 62)

end Nan

theorem isUnsupported_of_isNan {v : F80} (h : isNan v = true) : isUnsupported v = false := by
  revert h
  unfold isUnsupported isNan
  cases classOf v <;> decide

/-- A fraction field at its place in the extended significand. -/
theorem MemFp.fraction_lt {f : MemFp} {frac : ℕ} (hf : frac < 2 ^ f.frac) : frac * 2 ^ (63 - f.frac) < 2 ^ 63 := by
  cases f <;> simp only [MemFp.frac] at * <;> omega

theorem MemFp.quiet_fraction (f : MemFp) (frac : ℕ) :
    (frac ||| 2 ^ (f.frac - 1)) * 2 ^ (63 - f.frac) = frac * 2 ^ (63 - f.frac) ||| 2 ^ 62 := by
  have hq : 2 ^ (f.frac - 1) <<< (63 - f.frac) = 2 ^ 62 := by cases f <;> rfl
  rw [← Nat.shiftLeft_eq, ← Nat.shiftLeft_eq, Nat.shiftLeft_or_distrib, hq]

theorem MemFp.quiet_pack (f : MemFp) (neg : Bool) (e frac : ℕ) :
    f.pack neg e frac ||| 2 ^ (f.frac - 1) = f.pack neg e (frac ||| 2 ^ (f.frac - 1)) := by
  have hpos : f.frac - 1 + 1 = f.frac := by cases f <;> rfl
  have h := add_or_two_pow (neg.toNat * (f.expMax + 1) + e) frac (f.frac - 1)
  rw [hpos] at h
  rw [MemFp.pack_eq, MemFp.pack_eq, mul_comm, h]

theorem MemFp.quiet_lt {f : MemFp} {frac : ℕ} (hf : frac < 2 ^ f.frac) : frac ||| 2 ^ (f.frac - 1) < 2 ^ f.frac :=
  Nat.or_lt_two_pow hf (by cases f <;> decide)

theorem MemFp.quiet_of_ge {f : MemFp} {frac : ℕ} (hf : frac < 2 ^ f.frac) (h : ¬frac < 2 ^ (f.frac - 1)) :
    frac ||| 2 ^ (f.frac - 1) = frac := by
  rw [or_two_pow, if_pos]
  cases f <;> simp only [MemFp.frac, Nat.reduceSub] at * <;> omega

/-! ## What an image is widened to (R155, R185) -/

section Widen
variable {f : MemFp} {neg : Bool} {e frac : ℕ}

theorem widenFp_pack (he : e ≤ f.expMax) (hf : frac < 2 ^ f.frac) :
    widenFp f (f.pack neg e frac) =
      if e = 0 then
        if frac = 0 then ⟨zeroF80 neg, false⟩ else ⟨pack neg frac (f.fmt.emin - f.frac), true⟩
      else if e = f.expMax then
        if frac = 0 then ⟨infF80 neg, false⟩ else ⟨nanF80 neg (frac * 2 ^ (63 - f.frac)), false⟩
      else ⟨pack neg (2 ^ f.frac + frac) ((e : Int) - f.bias - f.frac), false⟩ := by
  unfold widenFp
  dsimp only
  rw [Nat.shiftRight_eq_div_pow, MemFp.pack_exp he hf, MemFp.pack_frac hf, MemFp.pack_sign he hf, Nat.shiftLeft_eq]
  rfl

theorem MemFp.expMax_ne_zero (f : MemFp) : f.expMax ≠ 0 := by cases f <;> decide

theorem loadFp_infinity : loadFp f (f.pack neg f.expMax 0) = (infinityOf neg, Exc.clear) := by
  have hw : widenFp f (f.pack neg f.expMax 0) = ⟨infinityOf neg, false⟩ := by
    rw [widenFp_pack le_rfl (by positivity), if_neg f.expMax_ne_zero, if_pos rfl, if_pos rfl, infinityOf_eq]
  have hs : isSnan (infinityOf neg) = false := by cases neg <;> decide
  simp [loadFp, hw, hs, Exc.denormalIf, Exc.clear]

theorem storeFp_infinity (cw : Word16) (t : Tininess) :
    storeFp cw t f (infinityOf neg) = ⟨some (f.pack neg f.expMax 0), Exc.clear, false⟩ := by
  have hi : isInf (infinityOf neg) = true ∧ isNan (infinityOf neg) = false ∧ isUnsupported (infinityOf neg) = false ∧
      signOf (infinityOf neg) = neg := by cases neg <;> decide
  obtain ⟨hinf, hnan, hun, hsign⟩ := hi
  simp [storeFp, hinf, hnan, hun, hsign]

theorem loadFp_nan (hf : frac < 2 ^ f.frac) (h0 : frac ≠ 0) :
    loadFp f (f.pack neg f.expMax frac) =
      (nanF80 neg ((frac ||| 2 ^ (f.frac - 1)) * 2 ^ (63 - f.frac)), { ie := decide (frac < 2 ^ (f.frac - 1)) }) := by
  have hlt := MemFp.fraction_lt hf
  have hne : frac * 2 ^ (63 - f.frac) ≠ 0 := by positivity
  have hw : widenFp f (f.pack neg f.expMax frac) = ⟨nanF80 neg (frac * 2 ^ (63 - f.frac)), false⟩ := by
    rw [widenFp_pack le_rfl hf, if_neg f.expMax_ne_zero, if_pos rfl, if_neg h0]
  have hquiet : decide (frac * 2 ^ (63 - f.frac) < 2 ^ 62) = decide (frac < 2 ^ (f.frac - 1)) := by
    rw [decide_eq_decide]
    cases f <;> simp only [MemFp.frac, Nat.reduceSub] <;> omega
  unfold loadFp
  dsimp only
  rw [hw, isSnan_nanF80 hne hlt, quiet_nanF80 hlt, hquiet, ← MemFp.quiet_fraction]
  by_cases hs : frac < 2 ^ (f.frac - 1)
  · rw [decide_eq_true hs]
    rfl
  · rw [decide_eq_false hs, MemFp.quiet_of_ge hf hs]
    rfl

theorem storeFp_nan (cw : Word16) (t : Tininess) {v : F80} (h : isNan v = true) :
    storeFp cw t f v = ⟨some (f.pack (signOf v) f.expMax ((manOf (quiet v)).toNat % 2 ^ 63 / 2 ^ (63 - f.frac))),
      { ie := isSnan v }, false⟩ := by
  simp [storeFp, h, isUnsupported_of_isNan h, narrowNan, Nat.shiftRight_eq_div_pow]

theorem storeFp_loaded_nan (cw : Word16) (t : Tininess) (hf : frac < 2 ^ f.frac) :
    storeFp cw t f (nanF80 neg ((frac ||| 2 ^ (f.frac - 1)) * 2 ^ (63 - f.frac))) =
      ⟨some (f.pack neg f.expMax frac ||| 2 ^ (f.frac - 1)), Exc.clear, false⟩ := by
  have hlt := MemFp.fraction_lt (MemFp.quiet_lt hf)
  have hge : 2 ^ 62 ≤ (frac ||| 2 ^ (f.frac - 1)) * 2 ^ (63 - f.frac) := MemFp.quiet_fraction f frac ▸ Nat.right_le_or
  have hq : (frac ||| 2 ^ (f.frac - 1)) * 2 ^ (63 - f.frac) ||| 2 ^ 62 = (frac ||| 2 ^ (f.frac - 1)) * 2 ^ (63 - f.frac) := by
    rw [← MemFp.quiet_fraction, Nat.or_assoc, Nat.or_self]
  rw [storeFp_nan cw t (isNan_nanF80 (by omega) hlt), isSnan_nanF80 (by omega) hlt, quiet_nanF80 hlt, hq, manOf_nanF80 hlt,
    Nat.add_mod_left, Nat.mod_eq_of_lt hlt, Nat.mul_div_cancel _ (by positivity), signOf_nanF80, MemFp.quiet_pack,
    decide_eq_false (by omega)]
  rfl

end Widen


/-! ## Finite images (R152, R159) -/

/-- The significand of an image that is a number (R152). -/
def MemFp.sig (f : MemFp) (e frac : ℕ) : ℕ := if e = 0 then frac else 2 ^ f.frac + frac

/-- The unit of its significand (R152). -/
def MemFp.unit (f : MemFp) (e : ℕ) : ℤ := if e = 0 then f.fmt.emin - f.frac else e - f.bias - f.frac

section Finite
variable {f : MemFp} {neg : Bool} {e frac : ℕ}

theorem MemFp.limits_eq (f : MemFp) :
    f.fmt.emin = 1 - f.bias ∧ f.fmt.emax = f.bias ∧ (f.expMax : ℤ) = 2 * f.bias + 1 ∧ f.fmt.p = f.frac + 1 := by
  cases f <;> decide

theorem MemFp.sig_lt (hf : frac < 2 ^ f.frac) : f.sig e frac < 2 ^ (f.frac + 1) := by
  unfold MemFp.sig
  split_ifs <;> omega

theorem MemFp.log2_sig (he : e ≠ 0) (hf : frac < 2 ^ f.frac) : Nat.log2 (f.sig e frac) = f.frac := by
  have hp := Nat.two_pow_pos f.frac
  rw [MemFp.sig, if_neg he, Nat.log2_eq_iff (by omega)]
  omega

theorem MemFp.floorLog2_sig (he : e ≠ 0) (hf : frac < 2 ^ f.frac) : floorLog2 (f.sig e frac) (f.unit e) = e - f.bias := by
  rw [floorLog2, MemFp.log2_sig he hf, MemFp.unit, if_neg he]
  ring

theorem MemFp.floorLog2_subnormal (hf : frac < 2 ^ f.frac) : floorLog2 (f.sig 0 frac) (f.unit 0) < f.fmt.emin := by
  have hp : f.frac - 1 + 1 = f.frac := by cases f <;> rfl
  have := log2_le_of_lt (hp.symm ▸ hf : frac < 2 ^ (f.frac - 1 + 1))
  simp only [floorLog2, MemFp.sig, MemFp.unit, if_pos]
  omega

/-- Every number of the format is a normal number of the extended format, or zero. -/
theorem MemFp.extended_range (he : e < f.expMax) (hf : frac < 2 ^ f.frac) :
    -16382 ≤ f.unit e ∧ floorLog2 (f.sig e frac) (f.unit e) ≤ 16383 := by
  have hlog := log2_le_of_lt (MemFp.sig_lt (e := e) hf)
  unfold floorLog2 MemFp.unit
  cases f <;> simp only [MemFp.expMax, MemFp.frac, MemFp.fmt, MemFp.bias] at * <;> split_ifs <;> omega

theorem MemFp.sig_dvd (hf : frac < 2 ^ f.frac) : 2 ^ (Nat.log2 (f.sig e frac) - 63) ∣ f.sig e frac := by
  refine dvd_of_le_two_pow (w := 63) ((MemFp.sig_lt (e := e) hf).le.trans (Nat.pow_le_pow_right two_pos ?_))
  cases f <;> decide

/-- The register pattern of a number of the format. -/
def loadedFp (f : MemFp) (neg : Bool) (e frac : ℕ) : F80 := pack neg (f.sig e frac) (f.unit e)

theorem loaded_holds (neg : Bool) (he : e < f.expMax) (hf : frac < 2 ^ f.frac) :
    Holds (loadedFp f neg e frac)
      (if neg then -(f.sig e frac * (2 : ℝ) ^ f.unit e) else f.sig e frac * (2 : ℝ) ^ f.unit e) := by
  obtain ⟨hlo, hhi⟩ := MemFp.extended_range he hf
  exact pack_holds neg (MemFp.sig_dvd hf) (by omega) hhi

theorem isDenormal_loaded (neg : Bool) (he : e < f.expMax) (hf : frac < 2 ^ f.frac) :
    isDenormal (loadedFp f neg e frac) = false := by
  obtain ⟨hlo, hhi⟩ := MemFp.extended_range he hf
  obtain ⟨E, m, hp, hc, hv, hE⟩ := pack_canonical neg (MemFp.sig_dvd (e := e) hf) (by omega) hhi
  rw [← Bool.not_eq_true, isDenormal_iff, loadedFp, hp, expOf_mkF80 neg hc.exp_lt hc.man_lt]
  rintro ⟨rfl, hm⟩
  have hsig : f.sig e frac = 0 := by
    by_contra h
    exact hE h (by unfold floorLog2; omega) rfl
  rw [hsig, Nat.cast_zero, zero_mul, mul_eq_zero, Nat.cast_eq_zero] at hv
  obtain rfl := hv.resolve_right (by positivity)
  exact hm (BitVec.eq_of_toNat_eq (manOf_mkF80 neg hc.exp_lt hc.man_lt))

theorem loadFp_finite (he : e < f.expMax) (hf : frac < 2 ^ f.frac) :
    loadFp f (f.pack neg e frac) = (loadedFp f neg e frac, { de := decide (e = 0 ∧ frac ≠ 0) }) := by
  have hw : widenFp f (f.pack neg e frac) = ⟨loadedFp f neg e frac, decide (e = 0 ∧ frac ≠ 0)⟩ := by
    rw [widenFp_pack he.le hf, if_neg he.ne, loadedFp, MemFp.sig, MemFp.unit]
    split_ifs <;> simp_all [pack, zeroF80]
  have hs : isSnan (loadedFp f neg e frac) = false := by
    obtain ⟨-, -, -, hs⟩ := not_special_of_finite (loaded_holds neg he hf).1
    exact hs
  simp [loadFp, hw, hs, Exc.denormalIf]

/-! ## Stores of finite values (R170) -/

theorem storeFp_finite (cw : Word16) (t : Tininess) {v : F80} (hf : isFinite v = true) (hz : isZero v = false) :
    let d := deliver ⟨cw, t, f.fmt, true⟩ (signOf v) ⟨(valOf v).m, (valOf v).e, false⟩
    storeFp cw t f v = ⟨deliveredBits f (signOf v) d.out, d.exc, d.c1⟩ := by
  obtain ⟨hu, hn, hi, -⟩ := not_special_of_finite hf
  simp only [storeFp, hu, hn, hi, hz, Bool.false_eq_true, if_false]
  rfl

/-- A member of the format, in the format's unit, is delivered as it is, unless UE is unmasked and it is tiny (R158, R161). -/
theorem deliver_exact (c : RoundCtx) (neg : Bool) {x : Mag} {q : ℕ} {g : ℤ} (hx : x.m ≠ 0) (hs : x.sticky = false)
    (h : x.Stands (q * (2 : ℝ) ^ g)) (hg : g = max (floorLog2 q g - (c.fmt.p - 1)) (c.fmt.emin - (c.fmt.p - 1)))
    (hmax : floorLog2 q g ≤ c.fmt.emax) (hmin : c.fmt.emin ≤ floorLog2 q g ∨ maskUM c.cw = true) :
    deliver c neg x = ⟨.finite q g, Exc.clear, false⟩ := by
  have hq : q ≠ 0 := by
    rintro rfl
    have := h.zpow_le hx
    rw [Nat.cast_zero, zero_mul] at this
    exact absurd this (not_le.mpr (by positivity))
  have hlog : floorLog2 x.m x.e = floorLog2 q g := eq_of_forall_le_iff fun k => by
    rw [← h.zpow_le_iff hx, ← (Mag.stands_mul_zpow q g).zpow_le_iff hq]
  have hround : roundTo c.fmt (rcOf c.cw) neg x = ⟨q, g, false, false⟩ := by
    rw [roundTo, hlog, ← hg]
    exact roundAt_exact _ neg hs h
  have htiny : isTiny c.tininess c.fmt (rcOf c.cw) neg x = true → maskUM c.cw = true := by
    intro ht
    refine hmin.resolve_left fun hle => ?_
    have hw : roundUnbounded c.fmt (rcOf c.cw) neg x = ⟨q, g, false, false⟩ := by
      rw [roundUnbounded, hlog, show floorLog2 q g - (c.fmt.p - 1) = g by omega]
      exact roundAt_exact _ neg hs h
    unfold isTiny at ht
    rw [hw, hlog] at ht
    revert ht
    cases c.tininess <;> simpa using hle
  rw [deliver_of_in_range (by rw [hround]; exact not_lt.mpr hmax) htiny, hround]
  simp [Exc.clear]

theorem MemFp.sig_zero (f : MemFp) (frac : ℕ) : f.sig 0 frac = frac := if_pos rfl

theorem MemFp.unit_zero (f : MemFp) : f.unit 0 = f.fmt.emin - f.frac := if_pos rfl

theorem packFp_sig (hf : frac < 2 ^ f.frac) : packFp f neg (f.sig e frac) (f.unit e) = f.pack neg e frac := by
  obtain ⟨hmin, -⟩ := f.limits_eq
  rcases eq_or_ne e 0 with rfl | he
  · rcases eq_or_ne frac 0 with rfl | h0
    · rw [MemFp.sig_zero]
      exact if_pos rfl
    · have hsub := MemFp.floorLog2_subnormal hf
      rw [packFp, if_pos hsub, MemFp.sig_zero, MemFp.unit_zero, if_neg h0, sub_self, Int.toNat_zero, Nat.shiftLeft_zero]
  · have hlog := MemFp.floorLog2_sig he hf
    have hsig : f.sig e frac = 2 ^ f.frac + frac := if_neg he
    have hp := Nat.two_pow_pos f.frac
    unfold packFp
    rw [if_neg (by omega), hlog, if_neg (by omega), MemFp.log2_sig he hf, if_pos le_rfl, Nat.sub_self, Nat.shiftLeft_zero,
      sub_add_cancel, Int.toNat_natCast, hsig]
    exact congrArg _ (Nat.add_sub_cancel_left ..)

theorem MemFp.unit_eq_max (he : e < f.expMax) (hf : frac < 2 ^ f.frac) :
    f.unit e = max (floorLog2 (f.sig e frac) (f.unit e) - (f.fmt.p - 1)) (f.fmt.emin - (f.fmt.p - 1)) := by
  obtain ⟨hmin, -, -, hp⟩ := f.limits_eq
  rcases eq_or_ne e 0 with rfl | h0
  · have := MemFp.floorLog2_subnormal hf
    rw [MemFp.unit_zero] at *
    omega
  · rw [MemFp.floorLog2_sig h0 hf, MemFp.unit, if_neg h0]
    omega

theorem storeFp_zero (cw : Word16) (t : Tininess) :
    storeFp cw t f (zeroF80 neg) = ⟨some (f.pack neg 0 0), Exc.clear, false⟩ := by
  have hz : isZero (zeroF80 neg) = true ∧ isInf (zeroF80 neg) = false ∧ isNan (zeroF80 neg) = false ∧
      isUnsupported (zeroF80 neg) = false ∧ signOf (zeroF80 neg) = neg := by cases neg <;> decide
  obtain ⟨hzero, hinf, hnan, hun, hsign⟩ := hz
  simp [storeFp, hzero, hinf, hnan, hun, hsign]

theorem storeFp_loaded (cw : Word16) (t : Tininess) (he : e < f.expMax) (hf : frac < 2 ^ f.frac)
    (h : e ≠ 0 ∨ frac = 0 ∨ cw.getLsbD 4 = true) :
    storeFp cw t f (loadedFp f neg e frac) = ⟨some (f.pack neg e frac), Exc.clear, false⟩ := by
  obtain ⟨hmin, hemax, hexp, -⟩ := f.limits_eq
  have hsub := MemFp.floorLog2_subnormal hf
  have hnorm : e ≠ 0 → floorLog2 (f.sig e frac) (f.unit e) = e - f.bias := fun h0 => MemFp.floorLog2_sig h0 hf
  by_cases hz : f.sig e frac = 0
  · have hp := Nat.two_pow_pos f.frac
    have h0 : e = 0 ∧ frac = 0 := by
      unfold MemFp.sig at hz
      split_ifs at hz <;> omega
    obtain ⟨rfl, rfl⟩ := h0
    exact storeFp_zero cw t
  · have hv := loaded_holds neg he hf
    have hpos : (0 : ℝ) < f.sig e frac * (2 : ℝ) ^ f.unit e := by positivity
    generalize hr : (if neg then -(f.sig e frac * (2 : ℝ) ^ f.unit e) else f.sig e frac * (2 : ℝ) ^ f.unit e) = r at hv
    have habs : |r| = f.sig e frac * (2 : ℝ) ^ f.unit e := by
      rw [← hr, apply_ite abs, abs_neg, ite_self, abs_of_pos hpos]
    have hr0 : r ≠ 0 := abs_pos.mp (habs ▸ hpos)
    have hd := deliver_exact ⟨cw, t, f.fmt, true⟩ neg (hv.2.eq_zero_iff.not.mp hr0) rfl (habs ▸ hv.2.stands_abs)
      (MemFp.unit_eq_max he hf) (by rcases eq_or_ne e 0 with rfl | h0 <;> dsimp only <;> omega) ?_
    · rw [storeFp_finite cw t hv.1 (isZero_of_ne_zero hv hr0), loadedFp, signOf_pack, ← loadedFp, hd, deliveredBits, packFp_sig hf]
    · rcases h with h0 | rfl | hu
      · exact .inl (by dsimp only; omega)
      · have h0 : e ≠ 0 := by
          rintro rfl
          exact hz (MemFp.sig_zero f 0)
        exact .inl (by dsimp only; omega)
      · exact .inr hu

/-- Every member of the format packs into an image of its value. -/
theorem packFp_spec (neg : Bool) {q : ℕ} {g : ℤ} (hq : q ≤ 2 ^ f.fmt.p) (hg : f.fmt.emin - f.frac ≤ g)
    (hmax : floorLog2 q g ≤ f.fmt.emax) :
    ∃ e frac, e < f.expMax ∧ frac < 2 ^ f.frac ∧ packFp f neg q g = f.pack neg e frac ∧
      f.sig e frac * (2 : ℝ) ^ f.unit e = q * (2 : ℝ) ^ g := by
  obtain ⟨hmin, hemax, hexp, hp⟩ := f.limits_eq
  rcases eq_or_ne q 0 with rfl | hq0
  · exact ⟨0, 0, Nat.pos_of_ne_zero f.expMax_ne_zero, by positivity, rfl, by rw [MemFp.sig_zero]; simp⟩
  rcases lt_or_ge (floorLog2 q g) f.fmt.emin with ht | hn
  · refine ⟨0, _, Nat.pos_of_ne_zero f.expMax_ne_zero, shiftLeft_lt_pow ?_, by rw [packFp, if_neg hq0, if_pos ht], ?_⟩
    · unfold floorLog2 at ht
      omega
    · rw [MemFp.sig_zero, MemFp.unit_zero]
      exact shiftLeft_mul_zpow q hg
  · obtain ⟨hval, hm1, hm2⟩ := normSig_spec (w := f.frac) hq0 (dvd_of_le_two_pow (hp ▸ hq))
    have he0 : (floorLog2 q g + f.bias).toNat ≠ 0 := by omega
    refine ⟨(floorLog2 q g + f.bias).toNat, normSig f.frac q - 2 ^ f.frac, by omega, by rw [pow_succ] at hm2; omega, ?_, ?_⟩
    · rw [packFp, if_neg hq0, if_neg (not_lt.mpr hn), normSig]
    · rw [MemFp.sig, if_neg he0, MemFp.unit, if_neg he0, Nat.add_sub_of_le hm1, ← hval, mul_assoc, ← zpow_add₀ two_ne_zero]
      congr 2
      unfold floorLog2 at *
      omega

end Finite

/-- Settles O58: integers and FRNDINT by `RNDINT_RC`, BCD by its digits, and m32fp and m64fp images field by field. -/
theorem conversionsRoundTrip : Obligations.ConversionsRoundTrip := by
  refine ⟨fun N hN n cw h => ?_, fun N hN cw v => ?_, fun c a ra h hr => rndintResult_rounds c h hr,
    fun c a b ra rb ha hr hb => scaleResult_rounds c ha hr hb, fun neg ignored ds hi hl hd => ⟨?_, loadBcd_storeBcd neg hi hl⟩,
    fun cw v => ⟨storeBcd_not_finite cw, fun rv h => storeBcd_stores cw h⟩, fun f m hm => ?_,
    fun f cw t v => ⟨fun h => by simp [storeFp, h], fun h => ?_, fun hf hz => ?_, fun neg q g hq hg hmax => ?_⟩⟩
  · exact loadInt_storeInt cw (by fin_cases hN <;> decide) (by fin_cases hN <;> decide) h
  · exact ⟨storeInt_not_finite cw N, fun rv h => storeInt_stores cw (by fin_cases hN <;> decide) h⟩
  · rintro ⟨d, hmem, h9⟩
    rw [loadBcd_bcdImage neg hi hl hd, if_neg]
    exact fun h => absurd (h d hmem) (by omega)
  · obtain ⟨neg, e, frac, he, hf, rfl⟩ := MemFp.exists_pack hm
    dsimp only
    rw [MemFp.pack_sign he hf, MemFp.pack_exp he hf, MemFp.pack_frac hf]
    refine ⟨?_, ?_, fun hne => ?_⟩
    · rintro rfl rfl
      rw [loadFp_infinity]
      exact ⟨rfl, storeFp_infinity⟩
    · rintro rfl h0
      rw [loadFp_nan hf h0]
      exact ⟨rfl, fun cw t => storeFp_loaded_nan cw t hf⟩
    · have he' : e < f.expMax := by omega
      have hv := loaded_holds neg he' hf
      rw [loadFp_finite he' hf]
      refine ⟨?_, signOf_pack .., isDenormal_loaded neg he' hf, rfl, fun cw t => storeFp_loaded cw t he' hf⟩
      unfold MemFp.sig MemFp.unit at hv
      split_ifs at hv ⊢ <;> exact hv
  · rw [storeFp_nan cw t h]
    exact ⟨rfl, rfl, rfl⟩
  · rw [storeFp_finite cw t hf hz]
    exact ⟨rfl, rfl, rfl⟩
  · obtain ⟨e, frac, he, hf, hp, hv⟩ := packFp_spec neg hq hg hmax
    rw [hp, loadFp_finite he hf, ← hv]
    exact ⟨by rw [deliveredBits, hp], MemFp.pack_lt he.le hf, loaded_holds neg he hf⟩

end Sys2Proof.Machine
end

section
/-! SUPPORT. Loads, constants, register stores and conditional moves (spec/41_load_store.md R200 to R207, R210, R214,
R221 to R238): the rule of each form, and what the rules they share leave. -/

namespace Sys2Proof.Machine

variable {i : Instr} {s : State} {m : MemOp} {v : F80} {e : Exc} {k : BitVec 3}

/-! ## Pushes (R37, R176) -/

/-- A push into an empty ST(7) delivers the value; else it is a stack overflow. -/
theorem pushRule_completes (h : exec i s = .next (pushRule v e s.normal.pointers)) :
    if s.isEmpty 7 then Completes i s (e, false) fun t => Pushed s t v
    else Completes i s (Exc.stackFault, true) fun t => Pushed s t realIndefinite := by
  have hempty : s.normal.pointers.isEmpty 7 = s.isEmpty 7 := rfl
  unfold pushRule at h
  rw [hempty] at h
  split at h
  · rw [if_pos ‹_›]
    exact (completes_push h rfl rfl rfl rfl rfl :)
  · rw [if_neg ‹_›]
    exact (completes_push h rfl rfl rfl rfl rfl :)

/-- As `pushRule_completes`, after a read of memory. -/
theorem pushRule_completesMem (h : exec i s = .next (pushRule v e (s.normal.pointersMem m))) :
    if s.isEmpty 7 then CompletesMem i m s (e, false) fun t => Pushed s t v
    else CompletesMem i m s (Exc.stackFault, true) fun t => Pushed s t realIndefinite := by
  have hempty : (s.normal.pointersMem m).isEmpty 7 = s.isEmpty 7 := rfl
  unfold pushRule at h
  rw [hempty] at h
  split at h
  · rw [if_pos ‹_›]
    exact (completesMem_push h rfl rfl rfl rfl rfl :)
  · rw [if_neg ‹_›]
    exact (completesMem_push h rfl rfl rfl rfl rfl :)

/-! ## Loads (R200 to R207) -/

/-- Each load pushes what its conversion makes of the image; the conversion does not depend on the pointers. -/
theorem ruleOf_loadForms {f : LoadForm} (hf : f ∈ loadForms) (m : MemOp) (s : State) :
    f.instr m ≠ .wait ∧ kindOf (f.instr m) = .waiting ∧ f.value (s.normal.pointersMem m) = f.value s ∧
      ruleOf (f.instr m) = withSource m f.bytes fun img t => pushRule (f.value t img).1 (f.value t img).2 t := by
  simp only [loadForms, List.mem_cons, List.not_mem_nil, or_false] at hf
  rcases hf with rfl | rfl | rfl | rfl | rfl | rfl | rfl <;> exact ⟨nofun, rfl, rfl, rfl⟩

/-- FLD ST(i) tests overflow first, then underflow (R203). -/
theorem loadStRule_completes (h : exec i s = .next (loadStRule k s.normal.pointers)) :
    if s.isEmpty 7 = false then Completes i s (Exc.stackFault, true) fun t => Pushed s t realIndefinite
    else if s.isEmpty k then Completes i s (Exc.stackFault, false) fun t => Pushed s t realIndefinite
    else Completes i s (Exc.clear, false) fun t => Pushed s t (s.st k) := by
  have hempty (j : BitVec 3) : s.normal.pointers.isEmpty j = s.isEmpty j := rfl
  unfold loadStRule at h
  rw [hempty, hempty] at h
  split at h
  · obtain ⟨h7, hk⟩ := Bool.and_eq_true_iff.mp ‹_›
    rw [if_neg (by rw [h7]; nofun), if_pos hk]
    exact (completes_push h rfl rfl rfl rfl rfl :)
  · have hpush := pushRule_completes h
    cases h7 : s.isEmpty 7 with
    | false =>
      rw [if_pos rfl]
      rwa [h7, if_neg nofun] at hpush
    | true =>
      have hk : ¬s.isEmpty k = true := fun hk => ‹¬_› (by rw [h7, hk]; rfl)
      rw [if_neg nofun, if_neg hk]
      rwa [h7, if_pos rfl] at hpush

/-- Settles O26: a load from memory is a push of its conversion, and FLD ST(i) one of ST(i) after its two tests. -/
theorem loads : Obligations.Loads := by
  refine ⟨fun f hf s m hs hm => ?_, fun s k hs => loadStRule_completes (exec_ready nofun hs)⟩
  obtain ⟨hw, hk, hv, hr⟩ := ruleOf_loadForms hf m s
  have h := exec_ready hw (hk ▸ hs)
  rw [hr, withSource_readable hm, hv] at h
  exact pushRule_completesMem h

/-! ## Constants (R221 to R228) -/

/-- Each constant instruction is LOAD_CONST of the constant whose four roundings the table lists. -/
theorem ruleOf_constantTable {x : Instr × Byte × F80 × F80 × F80} (hx : x ∈ constantTable) :
    x.1 ≠ .wait ∧ kindOf x.1 = .waiting ∧ encode x.1 = [0xD9, x.2.1] ∧
      ∃ c : Constant, ruleOf x.1 = (fun t => constRule c t.pointers) ∧ c.value .rn = x.2.2.1 ∧ c.value .rd = x.2.2.2.1 ∧
        c.value .rz = x.2.2.2.1 ∧ c.value .ru = x.2.2.2.2 := by
  simp only [constantTable, List.mem_cons, List.not_mem_nil, or_false] at hx
  rcases hx with rfl | rfl | rfl | rfl | rfl | rfl | rfl <;> exact ⟨nofun, rfl, rfl, _, rfl, rfl, rfl, rfl, rfl⟩

/-- What depends on CW.RC, where RD and RZ agree, by the two bits of RC (R45). -/
theorem apply_rcOf {α : Type} {f : RC → α} {rn rd ru : α} (hn : f .rn = rn) (hd : f .rd = rd) (hz : f .rz = rd)
    (hu : f .ru = ru) (cw : Word16) :
    f (rcOf cw) = if cw.extractLsb' 10 2 = 0 then rn else if cw.extractLsb' 10 2 = 2 then ru else rd := by
  rw [rcOf_eq]
  generalize cw.extractLsb' 10 2 = b
  split_ifs <;> simp_all

/-- Settles O27: LOAD_CONST is a push of the table's value, with no flag. -/
theorem constants : Obligations.Constants := by
  intro x hx
  obtain ⟨hw, hk, henc, c, hr, hn, hd, hz, hu⟩ := ruleOf_constantTable hx
  refine ⟨henc, fun s hs => ?_⟩
  have h := exec_ready hw (hk ▸ hs)
  rw [hr] at h
  rw [← apply_rcOf hn hd hz hu]
  exact pushRule_completes h

/-! ## Stores to a register (R210, R214) -/

/-- FST and FSTP write ST(0) to ST(i), or real indefinite when ST(0) is empty, and pop or not. -/
theorem storeStRule_completes {pop : Bool} (h : exec i s = .next (storeStRule k pop s.normal.pointers)) :
    if s.isEmpty 0 then Completes i s (Exc.stackFault, false) fun t => Wrote pop.toNat s t (s.phys k) realIndefinite
    else Completes i s (Exc.clear, false) fun t => Wrote pop.toNat s t (s.phys k) (s.st 0) := by
  have hempty : s.normal.pointers.isEmpty 0 = s.isEmpty 0 := rfl
  unfold storeStRule at h
  rw [hempty] at h
  split at h
  · rw [if_pos ‹_›]
    exact (completes_write h rfl rfl rfl rfl rfl :)
  · rw [if_neg ‹_›]
    exact (completes_write h rfl rfl rfl rfl rfl :)

/-- Settles O29: each form is `storeStRule` with its own pop. -/
theorem registerStores : Obligations.RegisterStores := by
  intro k s hs x hx
  have hform : x.1 ≠ .wait ∧ kindOf x.1 = .waiting ∧
      ∃ pop : Bool, ruleOf x.1 = (fun t => storeStRule k pop t.pointers) ∧ pop.toNat = x.2 := by
    simp only [List.mem_cons, List.not_mem_nil, or_false] at hx
    rcases hx with rfl | rfl | rfl | rfl | rfl <;> exact ⟨nofun, rfl, _, rfl, rfl⟩
  obtain ⟨hw, hk, pop, hr, hp⟩ := hform
  have h := exec_ready hw (hk ▸ hs)
  rw [hr] at h
  rw [← hp]
  exact storeStRule_completes h

/-! ## Conditional moves (R230 to R238) -/

theorem ruleOf_moveConditions {x : Instr × (Byte × Byte) × (Word32 → Bool)} (hx : x ∈ moveConditions k) :
    x.1 ≠ .wait ∧ kindOf x.1 = .waiting ∧ (∀ c : Params, available c x.1 = c.p6Ext) ∧
      ∃ c : Cond, ruleOf x.1 = (fun t => fcmovRule c k t.pointers) ∧ c.holds = x.2.2 := by
  simp only [moveConditions, List.mem_cons, List.not_mem_nil, or_false] at hx
  rcases hx with rfl | rfl | rfl | rfl | rfl | rfl | rfl | rfl <;> exact ⟨nofun, rfl, fun _ => rfl, _, rfl, rfl⟩

/-- The second byte of a register form is that of i = 0 plus i (R124). -/
theorem packByte_eq_add (mod : BitVec 2) (reg rm : BitVec 3) : packByte mod reg rm = packByte mod reg 0 + rm.setWidth 8 := by
  revert mod reg rm
  decide

theorem encode_moveConditions {x : Instr × (Byte × Byte) × (Word32 → Bool)} (hx : x ∈ moveConditions k) :
    encode x.1 = [x.2.1.1, x.2.1.2 + k.setWidth 8] := by
  simp only [moveConditions, List.mem_cons, List.not_mem_nil, or_false] at hx
  rcases hx with rfl | rfl | rfl | rfl | rfl | rfl | rfl | rfl <;>
    exact congrArg (fun b => [_, b]) (packByte_eq_add 3 _ k)

/-- FCMOV with an empty register writes real indefinite, whatever the condition (R230). -/
theorem fcmovRule_empty {c : Cond} (h : exec i s = .next (fcmovRule c k s.normal.pointers))
    (he : (s.isEmpty 0 || s.isEmpty k) = true) :
    Completes i s (Exc.stackFault, false) fun t => Wrote 0 s t s.top realIndefinite := by
  rw [fcmovRule, if_pos (by exact he)] at h
  rw [← phys_zero]
  exact (completes_write (pop := false) h rfl rfl rfl rfl rfl :)

/-- FCMOV with both registers full moves ST(i) if the condition holds, and raises nothing; all four codes are undefined. -/
theorem fcmovRule_full {c : Cond} (h : exec i s = .next (fcmovRule c k s.normal.pointers))
    (he : ¬(s.isEmpty 0 || s.isEmpty k) = true) :
    ∃ t, exec i s = .next t ∧ OnlyStack s t ∧ PointersReg s t ∧ Raised s t Exc.clear ∧
      if c.holds s.eflags then Wrote 0 s t s.top (s.st k) else KeptStack s t := by
  rw [fcmovRule, if_neg (by exact he), commit_register _ _ rfl] at h
  refine ⟨_, h, (onlyStack_pointers s).finish rfl, pointersReg_finish s, finish_raised _ _ _, ?_⟩
  have heflags : s.normal.pointers.eflags = s.eflags := rfl
  rw [heflags, ← phys_zero]
  split
  · exact (wrote_stackOps (sameStack_rule s _) 0 (s.st k) false).congr (sameStack_finish rfl)
  · exact finish_kept (s := s.normal.pointers) rfl

/-- Settles O30, by the two cases of FCMOV's rule. -/
theorem conditionalMoves : Obligations.ConditionalMoves := by
  intro k x hx
  obtain ⟨hw, hk, hav, c, hr, hc⟩ := ruleOf_moveConditions hx
  refine ⟨encode_moveConditions hx, hav, fun s hs => ?_⟩
  have h := exec_ready hw (hk ▸ hs)
  rw [hr] at h
  rw [← hc]
  split
  · exact fcmovRule_empty h ‹_›
  · exact fcmovRule_full h ‹_›

end Sys2Proof.Machine
end

section
/-! SUPPORT. Stores to memory (spec/41_load_store.md R208, R209, R211 to R213, R215 to R220): each is one COMMIT of a conversion's
result, whose write and pop go ahead together or not at all (spec/40_numerics.md R190). -/

namespace Sys2Proof.Machine

variable {s : State} {m : MemOp} {f : StoreForm}

/-! ## The forms -/

/-- Each form stores what its conversion makes of ST(0), with one pop or none; the conversion does not depend on the pointers. -/
theorem ruleOf_storeForms (hf : f ∈ storeForms) (m : MemOp) (s : State) :
    f.instr m ≠ .wait ∧ kindOf (f.instr m) = .waiting ∧ (f.pops == 1).toNat = f.pops ∧
      f.convert (s.normal.pointersMem m) = f.convert s ∧
      ruleOf (f.instr m) = storeRule f.convert f.bytes f.indefinite (f.pops == 1) m := by
  simp only [storeForms, List.mem_cons, List.not_mem_nil, or_false] at hf
  rcases hf with rfl | rfl | rfl | rfl | rfl | rfl | rfl | rfl | rfl | rfl | rfl <;> exact ⟨nofun, rfl, rfl, rfl, rfl⟩

theorem StoreForm.bytes_le (hf : f ∈ storeForms) : f.bytes ≤ 2 ^ 32 := by
  simp only [storeForms, List.mem_cons, List.not_mem_nil, or_false] at hf
  rcases hf with rfl | rfl | rfl | rfl | rfl | rfl | rfl | rfl | rfl | rfl | rfl <;> norm_num

/-- A conversion without an image has an unmasked OE or UE (R160, R161). -/
theorem StoreForm.unmasked_of_no_image (hf : f ∈ storeForms) {v : F80} (h : (f.convert s v).bits = none) :
    (((f.convert s v).exc.unmasked s.cw).oe || ((f.convert s v).exc.unmasked s.cw).ue) = true := by
  simp only [storeForms, List.mem_cons, List.not_mem_nil, or_false] at hf
  rcases hf with rfl | rfl | rfl | rfl | rfl | rfl | rfl | rfl | rfl | rfl | rfl
  iterate 4 exact (storeFp_none ..).mp h
  · cases h
  iterate 5 exact absurd h (storeInt_bits ..).1
  · exact absurd h (storeBcd_bits ..).1

theorem StoreForm.image_of_goesAhead (hf : f ∈ storeForms) (h : f.goesAhead s) : ∃ v, (f.result s).bits = some v := by
  obtain ⟨-, hoe, hue⟩ := h
  rw [← Option.ne_none_iff_exists']
  intro hn
  unfold StoreForm.result at hoe hue hn
  split at hn
  · cases hn
  · rw [if_neg ‹_›] at hoe hue
    have hu := StoreForm.unmasked_of_no_image hf hn
    rw [hoe, hue] at hu
    cases hu

/-! ## The COMMIT of a store -/

/-- What a store hands to COMMIT. -/
def storeCommit (s : State) (m : MemOp) (n : Nat) (pop : Bool) (r : StoreResult) : Commit where
  exc := r.exc
  codes := s.codesUndef r.c1
  store := s.storeAt m n r.bits
  ops := popIf pop

theorem exec_store (hf : f ∈ storeForms) (hs : Ready .waiting s) :
    exec (f.instr m) s =
      .next (commit (storeCommit s m f.bytes (f.pops == 1) (f.result s)) (s.normal.pointersMem m)) := by
  obtain ⟨hw, hk, -, hc, hr⟩ := ruleOf_storeForms hf m s
  rw [exec_ready hw (hk ▸ hs), hr]
  unfold storeRule withDest StoreForm.result
  have hempty : (s.normal.pointersMem m).isEmpty 0 = s.isEmpty 0 := rfl
  have hst : (s.normal.pointersMem m).st 0 = s.st 0 := rfl
  dsimp only
  rw [hempty, hst, hc]
  split <;> rfl

variable {n : Nat} {pop : Bool} {r : StoreResult} {cw : Word16}

/-- Nothing of a store is suppressed exactly when no IE, DE, ZE, OE or UE is unmasked. -/
theorem storeCommit_suppress_iff :
    (storeCommit s m n pop r).suppress cw = .nothing ↔
      (r.exc.unmasked cw).pre = false ∧ (r.exc.unmasked cw).oe = false ∧ (r.exc.unmasked cw).ue = false := by
  have hsup : (storeCommit s m n pop r).suppress cw =
      if (r.exc.unmasked cw).pre then .all
      else if (r.exc.unmasked cw).oe || (r.exc.unmasked cw).ue then .memoryAndPop else .nothing := rfl
  rw [hsup]
  cases (r.exc.unmasked cw).pre <;> cases (r.exc.unmasked cw).oe <;> cases (r.exc.unmasked cw).ue <;> decide

theorem popIf_filter_isWrite (pop : Bool) : (popIf pop).filter StackOp.isWrite = [] := by cases pop <;> rfl

/-- A store of which something is suppressed writes and pops nothing. -/
theorem storeCommit_suppressed {sup : Suppress} (h : sup ≠ .nothing) :
    (storeCommit s m n pop r).storeDone sup = none ∧ (storeCommit s m n pop r).opsDone sup = [] := by
  cases sup with
  | nothing => exact absurd rfl h
  | memoryAndPop => exact ⟨rfl, popIf_filter_isWrite pop⟩
  | all => exact ⟨rfl, rfl⟩

theorem popped_popIf {u w : State} (h : SameStack w u) (pop : Bool) : Popped pop.toNat u (w.stackOps (popIf pop)) := by
  cases pop
  · exact popped_stackOps h [] (.inl rfl)
  · exact popped_stackOps h [.pop] (.inr (.inl rfl))

/-- The state of a store after its write of memory has the stack of the state before. -/
theorem sameStack_ruleStored (s : State) (m : MemOp) (mem : List Host.Cell) (c : Commit) :
    SameStack ({ s.normal.pointersMem m with mem := mem, sw := raiseFlags s.sw s.cw c.exc } : State) s :=
  sameStack_ruleMem s m c

theorem storeCommit_storeDone {v : Nat} (hv : r.bits = some v) :
    (storeCommit s m n pop r).storeDone .nothing = some (s.addr m, n, v) := by
  simp only [Commit.storeDone, storeCommit, State.storeAt, hv]

/-- A store that goes ahead: the bytes hold the image, and the stack pops. -/
theorem commit_store_goesAhead {v : Nat} (hs : (storeCommit s m n pop r).suppress s.cw = .nothing) (hv : r.bits = some v)
    (hw : Writable s m n) (hm : Memory.wf s.mem = true) (hn : n ≤ 2 ^ 32) :
    let t := commit (storeCommit s m n pop r) (s.normal.pointersMem m)
    OnlyStackAndMem s t ∧ PointersMem s t m ∧ NumericEnd s t r.exc r.c1 ∧ StoredAt s t (s.addr m) n v ∧
      Popped pop.toNat s t := by
  have hd := storeCommit_storeDone (s := s) (m := m) (n := n) (pop := pop) hv
  rw [← hs] at hd
  dsimp only
  rw [commit_store (s.normal.pointersMem m) _ hd hw]
  generalize hmem : writeLE _ _ _ _ = mem
  refine ⟨?_, ?_, ?_, ⟨?_, fun k hk => ?_⟩, ?_⟩
  · rw [OnlyStackAndMem, finish_mem]
    exact OnlyStack.finish (onlyStack_pointersMem { s with mem := mem } m) rfl
  · exact (pointersMem_finish { s with mem := mem } m :)
  · exact (finish_numericEnd (s := { s.normal.pointersMem m with mem := mem }) (c := storeCommit s m n pop r) rfl rfl :)
  · rw [finish_mem, ← hmem]
    exact readLE_writeLE_same n (s.addr m) v hn hm
  · rw [finish_mem, ← hmem]
    exact readByte_writeLE_other n (s.addr m) v k hk hm
  · have hstack := sameStack_ruleStored s m mem (storeCommit s m n pop r)
    exact (popped_popIf hstack pop).congr (sameStack_finish (congrArg _ hs))

/-- A store of which something is suppressed leaves memory and the stack as they were. -/
theorem commit_store_suppressed (hs : (storeCommit s m n pop r).suppress s.cw ≠ .nothing) :
    let t := commit (storeCommit s m n pop r) (s.normal.pointersMem m)
    OnlyStack s t ∧ PointersMem s t m ∧ NumericEnd s t r.exc r.c1 ∧ KeptStack s t := by
  obtain ⟨hd, ho⟩ := storeCommit_suppressed (s := s) (m := m) (n := n) (pop := pop) (r := r) hs
  dsimp only
  rw [commit_no_store (s.normal.pointersMem m) _ hd]
  refine ⟨(onlyStack_pointersMem s m).finish rfl, pointersMem_finish s m, ?_, ?_⟩
  · exact (finish_numericEnd (s := s.normal.pointersMem m) (c := storeCommit s m n pop r) rfl rfl :)
  · exact (finish_kept (s := s.normal.pointersMem m) ho :)

/-- A store that goes ahead and may not write hands the fault over, with the pointers updated (R85). -/
theorem commit_store_refused {v : Nat} {e : MemFault} (hs : (storeCommit s m n pop r).suppress s.cw = .nothing)
    (hv : r.bits = some v) (he : accessFault s.faultMap true (s.addr m) n = some e) :
    commit (storeCommit s m n pop r) (s.normal.pointersMem m) = (s.pointersMem m).raiseCpu e.vector := by
  have hd := storeCommit_storeDone (s := s) (m := m) (n := n) (pop := pop) hv
  rw [← hs] at hd
  exact commit_store_fault _ _ hd he

/-- Settles O28: a store is one COMMIT, which writes memory and pops, hands a write fault over, or is suppressed. -/
theorem memoryStores : Obligations.MemoryStores := by
  intro f hf s m hs hm r
  obtain ⟨-, -, hp, -⟩ := ruleOf_storeForms hf m s
  have hexec := exec_store (m := m) hf hs
  have hsup : _ ↔ f.goesAhead s :=
    storeCommit_suppress_iff (s := s) (m := m) (n := f.bytes) (pop := f.pops == 1) (r := f.result s)
  refine ⟨fun hg => ?_, fun hg => ⟨_, hexec, commit_store_suppressed (hsup.not.mpr hg)⟩⟩
  obtain ⟨v, hv⟩ := StoreForm.image_of_goesAhead hf hg
  refine ⟨v, hv, fun hw => ⟨_, hexec, ?_⟩, fun e he =>
    hexec.trans (congrArg _ (commit_store_refused (hsup.mpr hg) hv he))⟩
  have h := commit_store_goesAhead (hsup.mpr hg) hv hw hm (StoreForm.bytes_le hf)
  rwa [hp] at h

end Sys2Proof.Machine
end

section
/-! SUPPORT. The memory forms of the arithmetic (spec/42_arithmetic.md R250 to R293): ARITH on ST(0) and what memory holds. -/

namespace Sys2Proof.Machine

variable {i : Instr} {m : MemOp} {s : State}

/-- Each memory form is ARITH on ST(0) and its source, with no pop. -/
theorem ruleOf_memArithForms {f : MemArithForm} (hf : f ∈ memArithForms) (m : MemOp) :
    f.instr m ≠ .wait ∧ kindOf (f.instr m) = .waiting ∧
      ruleOf (f.instr m) = withSource m f.bytes fun img t =>
        arithRule f.op f.reversed (t.isEmpty 0) (.reg (t.st 0)) (f.source img) 0 false t := by
  simp only [memArithForms, List.mem_cons, List.not_mem_nil, or_false] at hf
  rcases hf with rfl | rfl | rfl | rfl | rfl | rfl | rfl | rfl | rfl | rfl | rfl | rfl | rfl | rfl | rfl | rfl | rfl | rfl |
    rfl | rfl | rfl | rfl | rfl | rfl <;> exact ⟨nofun, rfl, rfl⟩

/-- A memory form writes its result to ST(0); an empty ST(0) is a stack fault (R250, R251). -/
theorem arithRule_completesMem {k : ArithOp} {reversed : Bool} {a : Operand}
    (h : exec i s = .next (arithRule k reversed (s.isEmpty 0) (.reg (s.st 0)) a 0 false (s.normal.pointersMem m))) :
    if s.isEmpty 0 then CompletesMem i m s (Exc.stackFault, false) fun t => Wrote 0 s t s.top realIndefinite
    else
      let r := arithValue k reversed (s.numCtx s.precision) (.reg (s.st 0)) a
      CompletesMem i m s (r.exc, r.c1) fun t => Wrote 0 s t s.top r.v := by
  have hctx : (s.normal.pointersMem m).numCtx (s.normal.pointersMem m).precision = s.numCtx s.precision := rfl
  unfold arithRule at h
  rw [hctx] at h
  rw [← phys_zero]
  -- As in `arithStRule_completes`, `(… :)` keeps the goal from the unifier.
  split at h
  · rw [if_pos ‹_›]
    exact (completesMem_write h rfl rfl rfl rfl rfl :)
  · rw [if_neg ‹_›]
    exact (completesMem_write h rfl rfl rfl rfl rfl :)

/-- Settles O32: every form is ARITH on ST(0) and its source, which ends in one COMMIT. -/
theorem memoryArithmetic : Obligations.MemoryArithmetic := by
  intro f hf s m hs hm
  obtain ⟨hw, hk, hr⟩ := ruleOf_memArithForms hf m
  have h := exec_ready hw (hk ▸ hs)
  rw [hr, withSource_readable hm] at h
  exact arithRule_completesMem h

end Sys2Proof.Machine
end

section
/-! SUPPORT. The reduction of FPREM and FPREM1 (spec/42_arithmetic.md R300, R301): two values as whole multiples of one unit, and
the division of these whole numbers. -/

namespace Sys2Proof.Machine

/-! ## Whole multiples of one unit -/

/-- The magnitude of a value in the finer of its unit and that of another. -/
def alignedMag (v w : Val) : ℕ := v.m <<< (v.e - min v.e w.e).toNat

theorem abs_eq_alignedMag {v w : Val} {r : ℝ} (h : v.Is r) : |r| = alignedMag v w * (2 : ℝ) ^ min v.e w.e := by
  rw [h.abs_eq, alignedMag, shiftLeft_mul_zpow _ (min_le_left _ _)]

theorem alignedMag_pos {v : Val} (h : v.m ≠ 0) (w : Val) : 0 < alignedMag v w := by
  rw [alignedMag, Nat.shiftLeft_eq]
  positivity

/-- The exponent difference D of R300. -/
def expDiff (a b : Val) : ℤ := floorLog2 a.m a.e - floorLog2 b.m b.e

theorem reduce_complete {a b : Val} (nearest : Bool) (N : ℕ) (h : expDiff a b < 64) :
    let q := if nearest then nearestEven (alignedMag a b) (alignedMag b a) else alignedMag a b / alignedMag b a
    let r : ℤ := alignedMag a b - q * alignedMag b a
    reduce nearest N a b = ⟨if r < 0 then !a.neg else a.neg, ⟨r.natAbs, min a.e b.e, false⟩, some q⟩ := by
  unfold alignedMag
  rw [min_comm b.e a.e]
  exact if_pos h

theorem reduce_partial {a b : Val} (nearest : Bool) (N : ℕ) (h : 64 ≤ expDiff a b) :
    reduce nearest N a b =
      ⟨a.neg, ⟨alignedMag a b % (alignedMag b a <<< (expDiff a b - N).toNat), min a.e b.e, false⟩, none⟩ := by
  unfold alignedMag
  rw [min_comm b.e a.e]
  exact if_neg (not_lt.mpr h)

/-! ## Quotients of whole numbers -/

/-- Rounded to nearest, a quotient leaves a remainder of at most half the divisor, and of half of it only where it is even. -/
theorem nearestEven_spec (n : ℕ) {d : ℕ} (hd : 0 < d) :
    |(n : ℤ) - nearestEven n d * d| * 2 ≤ d ∧
      (|(n : ℤ) - nearestEven n d * d| * 2 = d → nearestEven n d % 2 = 0) := by
  have hlt := Nat.mod_lt n hd
  have hn : (n : ℤ) = d * (n / d : ℕ) + (n % d : ℕ) := by exact_mod_cast (Nat.div_add_mod n d).symm
  unfold nearestEven
  generalize n / d = q at *
  generalize n % d = r at *
  dsimp only
  split_ifs with h
  · have habs : (n : ℤ) - (q + 1 : ℕ) * d = -(d - r) := by rw [hn]; push_cast; ring
    rw [habs, abs_neg, abs_of_pos (by omega)]
    omega
  · have habs : (n : ℤ) - q * d = r := by rw [hn]; ring
    rw [habs, abs_of_nonneg (by omega)]
    omega

/-! ## The remainder -/

/-- A signed number as a sign and a magnitude. -/
theorem sign_natAbs (neg : Bool) (r : ℤ) (u : ℝ) :
    (if (if r < 0 then !neg else neg) then -(r.natAbs * u) else r.natAbs * u) = if neg then -(r * u) else r * u := by
  rw [Nat.cast_natAbs, Int.cast_abs]
  rcases lt_or_ge r 0 with h | h
  · rw [if_pos h, abs_of_neg (by exact_mod_cast h)]
    cases neg <;> simp
  · rw [if_neg (not_lt.mpr h), abs_of_nonneg (by exact_mod_cast h)]

section Remainder
variable {a b : Val} {ra rb : ℝ}

/-- The signed remainder of a complete reduction is a - q*b, whatever whole number q is. -/
theorem signed_remainder (ha : a.Is ra) (hb : b.Is rb) (q : ℕ) :
    let r : ℤ := alignedMag a b - q * alignedMag b a
    let mag : ℝ := r.natAbs * (2 : ℝ) ^ min a.e b.e
    (if (if r < 0 then !a.neg else a.neg) then -mag else mag) = ra - (if a.neg = b.neg then (q : ℝ) else -q) * rb := by
  intro r mag
  have hra := ha.eq_abs
  have hrb := hb.eq_abs
  rw [abs_eq_alignedMag (w := b) ha] at hra
  rw [abs_eq_alignedMag (w := a) hb, min_comm] at hrb
  have hr : (r : ℝ) = alignedMag a b - q * alignedMag b a := by simp only [r]; push_cast; rfl
  rw [show mag = r.natAbs * (2 : ℝ) ^ min a.e b.e from rfl, sign_natAbs, hr, hra, hrb]
  generalize (2 : ℝ) ^ min a.e b.e = u
  cases a.neg <;> cases b.neg <;> simp <;> ring

theorem truncated_remainder_lt (hb : b.Is rb) (hbm : b.m ≠ 0) :
    let r : ℤ := alignedMag a b - (alignedMag a b / alignedMag b a : ℕ) * alignedMag b a
    0 ≤ r ∧ r.natAbs * (2 : ℝ) ^ min a.e b.e < |rb| := by
  have hlt := Nat.mod_lt (alignedMag a b) (alignedMag_pos hbm a)
  have hr : (alignedMag a b : ℤ) - (alignedMag a b / alignedMag b a : ℕ) * alignedMag b a =
      (alignedMag a b % alignedMag b a : ℕ) := by
    rw [sub_eq_iff_eq_add', mul_comm]
    exact_mod_cast (Nat.div_add_mod ..).symm
  rw [abs_eq_alignedMag (w := a) hb, min_comm]
  dsimp only
  rw [hr, Int.natAbs_natCast]
  exact ⟨Int.natCast_nonneg _, by gcongr⟩

theorem nearest_remainder_le (hb : b.Is rb) (hbm : b.m ≠ 0) :
    let q := nearestEven (alignedMag a b) (alignedMag b a)
    let mag : ℝ := ((alignedMag a b : ℤ) - q * alignedMag b a).natAbs * (2 : ℝ) ^ min a.e b.e
    mag ≤ |rb| / 2 ∧ (mag = |rb| / 2 → q % 2 = 0) := by
  intro q mag
  have hu : (0 : ℝ) < (2 : ℝ) ^ min a.e b.e := by positivity
  obtain ⟨hle, htie⟩ := nearestEven_spec (alignedMag a b) (alignedMag_pos hbm a)
  have hmag : mag = |(alignedMag a b : ℤ) - q * alignedMag b a| * (2 : ℝ) ^ min a.e b.e := congrArg (· * _) (Nat.cast_natAbs _)
  have htwice : |rb| / 2 = (alignedMag b a : ℝ) / 2 * (2 : ℝ) ^ min a.e b.e := by
    rw [abs_eq_alignedMag (w := a) hb, min_comm]
    ring
  rw [hmag, htwice, mul_le_mul_iff_of_pos_right hu, mul_left_inj' hu.ne', le_div_iff₀ two_pos, eq_div_iff two_ne_zero]
  exact ⟨by exact_mod_cast hle, fun h => htie (by exact_mod_cast h)⟩

theorem partial_remainder (ha : a.Is ra) (hb : b.Is rb) (hbm : b.m ≠ 0) (k : ℕ) :
    let mag : ℝ := (alignedMag a b % (alignedMag b a <<< k) : ℕ) * (2 : ℝ) ^ min a.e b.e
    ∃ q : ℕ, mag = |ra| - q * |rb| ∧ mag < |rb| * 2 ^ k := by
  intro mag
  have hpos : 0 < alignedMag b a <<< k := by
    have := alignedMag_pos hbm a
    rw [Nat.shiftLeft_eq]
    positivity
  have hdiv : (alignedMag a b : ℝ) =
      alignedMag b a * 2 ^ k * (alignedMag a b / (alignedMag b a <<< k) : ℕ) + (alignedMag a b % (alignedMag b a <<< k) : ℕ) := by
    rw [Nat.shiftLeft_eq]
    exact_mod_cast (Nat.div_add_mod ..).symm
  have hlt : ((alignedMag a b % (alignedMag b a <<< k) : ℕ) : ℝ) < alignedMag b a * 2 ^ k := by
    exact_mod_cast (Nat.mod_lt _ hpos).trans_eq (Nat.shiftLeft_eq ..)
  rw [abs_eq_alignedMag (w := b) ha, abs_eq_alignedMag (w := a) hb, min_comm b.e, mul_right_comm]
  refine ⟨alignedMag a b / (alignedMag b a <<< k) * 2 ^ k, ?_, mul_lt_mul_of_pos_right hlt (by positivity)⟩
  rw [hdiv]
  push_cast
  ring

end Remainder

/-- Settles O57: the two divisions of `reduce` are those of whole multiples of one unit. -/
theorem exactRemainder : Obligations.ExactRemainder := by
  intro nearest N a b ra rb ha hb _ hbm _ hN D
  rcases lt_or_ge D 64 with hD | hD
  · rw [reduce_complete nearest N hD]
    refine ⟨rfl, fun _ => ⟨_, rfl, signed_remainder ha hb _, ?_, ?_⟩, fun h => absurd hD (not_lt.mpr h)⟩
    · rintro rfl
      obtain ⟨hnonneg, hlt⟩ := truncated_remainder_lt (a := a) hb hbm
      exact ⟨hlt, if_neg (not_lt.mpr hnonneg)⟩
    · rintro rfl
      exact nearest_remainder_le hb hbm
  · rw [reduce_partial nearest N hD]
    refine ⟨rfl, fun h => absurd hD (not_le.mpr h), fun _ => ⟨rfl, rfl, ?_⟩⟩
    rw [← Int.toNat_of_nonneg (a := D - N) (by omega), zpow_natCast]
    exact partial_remainder ha hb hbm _

end Sys2Proof.Machine
end

section
/-! SUPPORT. The instructions on ST(0), and on ST(0) and ST(1), that end in one COMMIT (spec/42_arithmetic.md R294 to R299;
spec/43_transcendental.md R307), and their special operands. -/

namespace Sys2Proof.Machine

variable {i : Instr} {s : State}

/-! ## Instructions that replace ST(0) -/

/-- An instruction of `unaryRule` writes its function of ST(0) to ST(0); an empty ST(0) is a stack fault. -/
theorem unaryRule_completes {f : NumCtx → F80 → Result} {p : State → ℕ} {g : F80 → Result}
    (h : exec i s = .next (unaryRule f p s.normal.pointers)) (hg : f (s.numCtx (p s.normal.pointers)) = g) :
    if s.isEmpty 0 then Completes i s (Exc.stackFault, false) fun t => Wrote 0 s t s.top realIndefinite
    else Completes i s ((g (s.st 0)).exc, (g (s.st 0)).c1) fun t => Wrote 0 s t s.top (g (s.st 0)).v := by
  have hempty : s.normal.pointers.isEmpty 0 = s.isEmpty 0 := rfl
  have hst : s.normal.pointers.st 0 = s.st 0 := rfl
  have hctx (n : ℕ) : s.normal.pointers.numCtx n = s.numCtx n := rfl
  unfold unaryRule at h
  rw [hempty, hst, hctx, hg] at h
  rw [← phys_zero]
  split at h
  · rw [if_pos ‹_›]
    exact (completes_write (pop := false) h rfl rfl rfl rfl rfl :)
  · rw [if_neg ‹_›]
    exact (completes_write (pop := false) h rfl rfl rfl rfl rfl :)

/-- An instruction of `binaryRule` writes its function of ST(0) and ST(1) to ST(0); an empty one is a stack fault. -/
theorem binaryRule_completes {f : NumCtx → F80 → F80 → Result}
    (h : exec i s = .next (binaryRule f s.normal.pointers)) :
    if s.isEmpty 0 || s.isEmpty 1 then
      Completes i s (Exc.stackFault, false) fun t => Wrote 0 s t s.top realIndefinite
    else
      let r := f (s.numCtx 64) (s.st 0) (s.st 1)
      Completes i s (r.exc, r.c1) fun t => Wrote 0 s t s.top r.v := by
  have hempty (j : BitVec 3) : s.normal.pointers.isEmpty j = s.isEmpty j := rfl
  have hst (j : BitVec 3) : s.normal.pointers.st j = s.st j := rfl
  have hctx : s.normal.pointers.numCtx 64 = s.numCtx 64 := rfl
  unfold binaryRule at h
  rw [hempty, hempty, hst, hst, hctx] at h
  rw [← phys_zero]
  split at h
  · rw [if_pos ‹_›]
    exact (completes_write (pop := false) h rfl rfl rfl rfl rfl :)
  · rw [if_neg ‹_›]
    exact (completes_write (pop := false) h rfl rfl rfl rfl rfl :)

theorem withSign_false (v : F80) : withSign v false = v &&& ~~~(BitVec.twoPow 80 79) := by
  apply BitVec.eq_of_getLsbD_eq
  intro k hk
  rw [withSign_getLsbD v _ k hk, BitVec.getLsbD_and, BitVec.getLsbD_not, BitVec.getLsbD_twoPow]
  split_ifs with hlt
  · simp [hk, Nat.ne_of_gt hlt]
  · obtain rfl : k = 79 := by omega
    simp

theorem withSign_not (v : F80) : withSign v (!signOf v) = v ^^^ BitVec.twoPow 80 79 := by
  apply BitVec.eq_of_getLsbD_eq
  intro k hk
  rw [withSign_getLsbD v _ k hk, BitVec.getLsbD_xor, BitVec.getLsbD_twoPow]
  split_ifs with hlt
  · simp [Nat.ne_of_gt hlt]
  · obtain rfl : k = 79 := by omega
    simp [signOf]

/-- FABS clears bit 79 (R294). -/
theorem absResult_eq (c : NumCtx) (a : F80) : absResult c a = ⟨a &&& ~~~(BitVec.twoPow 80 79), Exc.clear, false⟩ := by
  rw [absResult, Result.exact, withSign_false]

/-- FCHS inverts bit 79 (R295). -/
theorem chsResult_eq (c : NumCtx) (a : F80) : chsResult c a = ⟨a ^^^ BitVec.twoPow 80 79, Exc.clear, false⟩ := by
  rw [chsResult, Result.exact, withSign_not]

/-- Each form is `unaryRule` of its function. -/
theorem ruleOf_unaryForms {x : Instr × (State → F80 → Result)} (hx : x ∈ unaryForms) :
    x.1 ≠ .wait ∧ kindOf x.1 = .waiting ∧ ∃ (f : State → NumCtx → F80 → Result) (p : State → ℕ),
      (ruleOf x.1 = fun t => unaryRule (f t) p t.pointers) ∧
        ∀ s : State, f s.normal (s.numCtx (p s.normal.pointers)) = x.2 s := by
  simp only [unaryForms, List.mem_cons, List.not_mem_nil, or_false] at hx
  rcases hx with rfl | rfl | rfl | rfl | rfl
  · exact ⟨nofun, rfl, fun _ => absResult, fun _ => 64, rfl, fun s => funext (absResult_eq _)⟩
  · exact ⟨nofun, rfl, fun _ => chsResult, fun _ => 64, rfl, fun s => funext (chsResult_eq _)⟩
  · exact ⟨nofun, rfl, fun _ => sqrtResult, State.precision, rfl, fun s => rfl⟩
  · exact ⟨nofun, rfl, fun _ => rndintResult, fun _ => 64, rfl, fun s => rfl⟩
  · exact ⟨nofun, rfl, fun t => exp2m1Result t.draw, fun _ => 64, rfl, fun s => rfl⟩

/-! ## Classes of special operands -/

theorem not_special_of_isZero {a : F80} (h : isZero a = true) : isUnsupported a = false ∧ isNan a = false ∧ isInf a = false := by
  obtain ⟨hu, hn, hi, -⟩ := not_special_of_finite (v := a) (by simp [isFinite, h])
  exact ⟨hu, hn, hi⟩

theorem class_infinityOf (neg : Bool) :
    isUnsupported (infinityOf neg) = false ∧ isNan (infinityOf neg) = false ∧ isInf (infinityOf neg) = true ∧
      isZero (infinityOf neg) = false ∧ isDenormal (infinityOf neg) = false ∧ signOf (infinityOf neg) = neg := by
  cases neg <;> decide

theorem not_others_of_isInf {a : F80} (h : isInf a = true) : isUnsupported a = false ∧ isNan a = false ∧ isZero a = false := by
  revert h
  unfold isInf isUnsupported isNan isZero
  cases classOf a <;> decide

/-! ## Special operands of one operand (R166, R167, R183, R296, R297, R307) -/

/-- Unsupported operands and NaNs come before an instruction's own cases. -/
theorem special_operands {f rest : F80 → Result}
    (hf : ∀ a, f a = if isUnsupported a then Result.invalid else if isNan a then nanResult1 a else rest a)
    (hzero : ∀ a, isZero a = true → rest a = Result.exact a)
    (hinf : rest (infinityOf false) = Result.exact (infinityOf false)) (a : F80) :
    (isUnsupported a = true → f a = ⟨realIndefinite, Exc.invalid, false⟩) ∧
      (isNan a = true → f a = ⟨a ||| BitVec.twoPow 80 62, { ie := isSnan a }, false⟩) ∧
      (isZero a = true → f a = ⟨a, Exc.clear, false⟩) ∧
      (a = infinityOf false → f a = ⟨a, Exc.clear, false⟩) := by
  rw [hf]
  refine ⟨fun hu => if_pos hu, fun hn => ?_, fun hz => ?_, ?_⟩
  · rw [isUnsupported_of_isNan hn, hn]
    rfl
  · obtain ⟨hu, hn, -⟩ := not_special_of_isZero hz
    rw [hu, hn]
    exact hzero a hz
  · rintro rfl
    obtain ⟨hu, hn, -⟩ := class_infinityOf false
    rw [hu, hn]
    exact hinf

theorem sqrtResult_negative (c : NumCtx) {a : F80} (hn : isNan a = false) (hu : isUnsupported a = false)
    (hz : isZero a = false) (hs : signOf a = true) : sqrtResult c a = ⟨realIndefinite, Exc.invalid, false⟩ := by
  simp [sqrtResult, hn, hu, hz, hs, Result.invalid]

theorem rndintResult_infinity (c : NumCtx) (neg : Bool) : rndintResult c (infinityOf neg) = ⟨infinityOf neg, Exc.clear, false⟩ := by
  obtain ⟨hu, hn, hi, -⟩ := class_infinityOf neg
  simp [rndintResult, hu, hn, hi, Result.exact]

theorem exp2m1Result_negInfinity (d : Draw) (c : NumCtx) :
    exp2m1Result d c (infinityOf true) = ⟨0xBFFF8000000000000000, Exc.clear, false⟩ := by
  obtain ⟨hu, hn, hi, hz, -, hs⟩ := class_infinityOf true
  simp only [exp2m1Result, hu, hn, hi, hz, hs, Bool.false_eq_true, if_false, if_true]
  rfl

theorem abs_le_one_of_atMostOne {v : Val} {r : ℝ} (h : v.Is r) (hm : v.m ≠ 0) (hone : atMostOne v = true) : |r| ≤ 1 := by
  rw [h.abs_eq]
  simp only [atMostOne, Bool.or_eq_true, Bool.and_eq_true, decide_eq_true_eq, beq_iff_eq] at hone
  rcases hone with hlt | ⟨hlog, hpow⟩
  · rw [floorLog2_lt_iff fun h0 => absurd h0 hm, zpow_zero] at hlt
    exact hlt.le
  · rw [hpow, Nat.cast_pow, Nat.cast_ofNat, pow_mul_zpow, ← floorLog2, hlog, zpow_zero]

/-- Out of range the result of F2XM1 is a draw (R307). -/
theorem exp2m1Result_of_gt_one (d : Draw) (c : NumCtx) {a : F80} {r : ℝ} (h : Holds a r) (hr : 1 < |r|) :
    exp2m1Result d c a = ⟨d.v, { pe := d.pe, de := isDenormal a }, d.c1⟩ := by
  have hr0 : r ≠ 0 := abs_pos.mp (one_pos.trans hr)
  have hout : atMostOne (valOf a) = false := by
    rw [← Bool.not_eq_true]
    exact fun hone => absurd (abs_le_one_of_atMostOne h.2 (h.2.eq_zero_iff.not.mp hr0) hone) (not_le.mpr hr)
  obtain ⟨hu, hn, hi, -⟩ := not_special_of_finite h.1
  simp [exp2m1Result, hu, hn, hi, isZero_of_ne_zero h hr0, hout, Draw.result, Result.withDE, Exc.union, Exc.denormalIf]

/-! ## FSCALE (R298) -/

theorem scaleResult_nan (c : NumCtx) {a b : F80} (hua : isUnsupported a = false) (hub : isUnsupported b = false)
    (hn : (isNan a || isNan b) = true) : scaleResult c a b = arithResult .add c (.reg a) (.reg b) := by
  simp [scaleResult, arithResult, Operand.reg, hua, hub, hn]

/-- The operands that raise no invalid operation and are no NaNs. -/
theorem scaleResult_valid (c : NumCtx) {a b : F80} (hua : isUnsupported a = false) (hub : isUnsupported b = false)
    (hna : isNan a = false) (hnb : isNan b = false)
    (hv : ((isZero a && isInf b && !signOf b) || (isInf a && isInf b && signOf b)) = false) :
    scaleResult c a b = (scaleF c a b).withDE (isDenormal a || isDenormal b) := by
  simp [scaleResult, hua, hub, hna, hnb, hv]

theorem withDE_exact (v : F80) (d : Bool) : (Result.exact v).withDE d = ⟨v, { de := d }, false⟩ := by cases d <;> rfl

/-- An infinite b: ST(0) becomes a zero or an infinity, unless that is an invalid operation. -/
theorem scaleResult_infinity (c : NumCtx) {a : F80} (neg : Bool) (hu : isUnsupported a = false) (hn : isNan a = false) :
    scaleResult c a (infinityOf neg) =
      if (if neg then isInf a else isZero a) then ⟨realIndefinite, Exc.invalid, false⟩
      else ⟨if neg then zeroOf (signOf a) else infinityOf (signOf a), { de := isDenormal a }, false⟩ := by
  obtain ⟨hub, hnb, hib, -, hdb, hsb⟩ := class_infinityOf neg
  cases neg
  · cases hz : isZero a
    · rw [scaleResult_valid c hu hub hn hnb (by simp [hz, hsb]), scaleF, if_pos hib, hsb, hdb, withDE_exact, infinityOf_eq,
        Bool.or_false]
      rfl
    · simp [scaleResult, hu, hub, hn, hnb, hib, hsb, hz, Result.invalid]
  · cases hi : isInf a
    · rw [scaleResult_valid c hu hub hn hnb (by simp [hi, hsb]), scaleF, if_pos hib, hsb, hdb, withDE_exact, zeroOf_eq,
        Bool.or_false]
      rfl
    · simp [scaleResult, hu, hub, hn, hnb, hib, hsb, hi, Result.invalid]

/-- A finite b leaves a zero and an infinity as they are. -/
theorem scaleResult_kept (c : NumCtx) {a b : F80} (ha : (isZero a || isInf a) = true) (hu : isUnsupported a = false)
    (hb : isFinite b = true) : scaleResult c a b = ⟨a, { de := isDenormal a || isDenormal b }, false⟩ := by
  obtain ⟨hub, hnb, hib, -⟩ := not_special_of_finite hb
  have hn : isNan a = false := by
    rcases Bool.or_eq_true_iff.mp ha with hz | hi
    · obtain ⟨-, hn, -⟩ := not_special_of_isZero hz
      exact hn
    · obtain ⟨-, hn, -⟩ := not_others_of_isInf hi
      exact hn
  rw [scaleResult_valid c hu hub hn hnb (by simp [hib]), scaleF, if_neg (by simp [hib]), if_pos ha, withDE_exact]

theorem scaleResult_special (c : NumCtx) (a b : F80) :
    let de : Exc := { de := isDenormal a || isDenormal b }
    let r := scaleResult c a b
    (isUnsupported a || isUnsupported b → r = ⟨realIndefinite, Exc.invalid, false⟩) ∧
      (isUnsupported a = false → isUnsupported b = false →
        (isNan a || isNan b → r = arithResult .add c (.reg a) (.reg b)) ∧
        (isZero a = true → b = infinityOf false → r = ⟨realIndefinite, Exc.invalid, false⟩) ∧
        (isInf a = true → b = infinityOf true → r = ⟨realIndefinite, Exc.invalid, false⟩) ∧
        (isNan a = false → isZero a = false → b = infinityOf false → r = ⟨infinityOf (signOf a), de, false⟩) ∧
        (isFinite a = true → b = infinityOf true → r = ⟨zeroOf (signOf a), de, false⟩) ∧
        (isZero a || isInf a → isFinite b = true → r = ⟨a, de, false⟩)) := by
  have hde (neg : Bool) : (isDenormal a || isDenormal (infinityOf neg)) = isDenormal a := by
    cases neg <;> exact Bool.or_false _
  refine ⟨fun hu => if_pos hu, fun hua hub => ⟨scaleResult_nan c hua hub, ?_, ?_, ?_, ?_, fun ha => scaleResult_kept c ha hua⟩⟩
  · rintro hz rfl
    obtain ⟨-, hn, -⟩ := not_special_of_isZero hz
    rw [scaleResult_infinity c false hua hn, hz]
    rfl
  · rintro hi rfl
    obtain ⟨-, hn, -⟩ := not_others_of_isInf hi
    rw [scaleResult_infinity c true hua hn, hi]
    rfl
  · rintro hn hz rfl
    rw [scaleResult_infinity c false hua hn, hz, hde]
    rfl
  · rintro hf rfl
    obtain ⟨-, hn, hi, -⟩ := not_special_of_finite hf
    rw [scaleResult_infinity c true hua hn, hi, hde]
    rfl

/-- Settles O33: each instruction is one COMMIT of its function, and the functions test their special operands first. -/
theorem unaryArithmetic : Obligations.UnaryArithmetic := by
  refine ⟨fun x hx s hs => ?_, fun s hs => binaryRule_completes (exec_ready nofun hs), fun c d a => ⟨fun f hf => ?_,
    fun hn hu hz hs => sqrtResult_negative c hn hu hz hs, ?_, fun r => exp2m1Result_of_gt_one d c⟩, scaleResult_special⟩
  · obtain ⟨hw, hk, f, p, hr, hf⟩ := ruleOf_unaryForms hx
    have h := exec_ready hw (hk ▸ hs)
    rw [hr] at h
    exact unaryRule_completes h (hf s)
  · simp only [List.mem_cons, List.not_mem_nil, or_false] at hf
    rcases hf with rfl | rfl | rfl
    · refine special_operands (f := sqrtResult c) (fun a => rfl) (fun a hz => ?_) ?_ a
      · exact if_pos hz
      · rfl
    · refine special_operands (f := rndintResult c) (fun a => rfl) (fun a hz => ?_) ?_ a
      · exact if_pos (by rw [hz, Bool.or_true])
      · rfl
    · refine special_operands (f := exp2m1Result d c) (fun a => rfl) (fun a hz => ?_) ?_ a
      · exact if_pos hz
      · rfl
  · rintro rfl
    exact ⟨rndintResult_infinity c true, exp2m1Result_negInfinity d c⟩

end Sys2Proof.Machine
end

section
/-! SUPPORT. FXTRACT (spec/42_arithmetic.md R299): the exponent and the significand of a number, and the stack tests. -/

namespace Sys2Proof.Machine

variable {i : Instr} {s : State}

/-- FXTRACT writes the exponent to ST(0) and pushes the significand; the stack tests come first, underflow before overflow. -/
theorem xtractRule_completes (h : exec i s = .next (xtractRule s.normal.pointers)) :
    if s.isEmpty 0 then Completes i s (Exc.stackFault, false) fun t => WroteAndPushed s t realIndefinite realIndefinite
    else if s.isEmpty 7 = false then
      Completes i s (Exc.stackFault, true) fun t => WroteAndPushed s t realIndefinite realIndefinite
    else
      let r := xtractResult (s.st 0)
      Completes i s (r.2.2, false) fun t => WroteAndPushed s t r.1 r.2.1 := by
  have hempty (j : BitVec 3) : s.normal.pointers.isEmpty j = s.isEmpty j := rfl
  have hst : s.normal.pointers.st 0 = s.st 0 := rfl
  unfold xtractRule replacePushFault at h
  rw [hempty, hempty, hst] at h
  split at h
  · rw [if_pos ‹_›]
    exact (completes_writePush h rfl rfl rfl rfl rfl :)
  rw [if_neg ‹_›]
  split at h
  · rw [if_neg (Bool.not_eq_false _ ▸ ‹s.isEmpty 7 = true›)]
    exact (completes_writePush h rfl rfl rfl rfl rfl :)
  · rw [if_pos (Bool.not_eq_true _ ▸ ‹¬s.isEmpty 7 = true›)]
    exact (completes_writePush h rfl rfl rfl rfl rfl :)

theorem xtractResult_special (a : F80) :
    let r := xtractResult a
    (isUnsupported a = true → r = (realIndefinite, realIndefinite, Exc.invalid)) ∧
      (isNan a = true → r = (a ||| BitVec.twoPow 80 62, a ||| BitVec.twoPow 80 62, { ie := isSnan a })) ∧
      (isZero a = true → r = (infinityOf true, a, { ze := true })) ∧
      (isInf a = true → r = (infinityOf false, a, Exc.clear)) := by
  unfold xtractResult
  refine ⟨fun hu => if_pos hu, fun hn => ?_, fun hz => ?_, fun hi => ?_⟩
  · rw [isUnsupported_of_isNan hn, hn]
    rfl
  · obtain ⟨hu, hn, -⟩ := not_special_of_isZero hz
    rw [hu, hn, hz, infinityOf_eq]
    rfl
  · obtain ⟨hu, hn, hz⟩ := not_others_of_isInf hi
    rw [hu, hn, hz, hi, infinityOf_eq]
    rfl

/-- The exponent and the significand of a finite number that is not zero. -/
theorem xtractResult_finite {a : F80} {ra : ℝ} (h : Holds a ra) (hr : ra ≠ 0) :
    let e := floorLog2 (valOf a).m (valOf a).e
    xtractResult a = (pack (decide (e < 0)) e.natAbs 0, pack (valOf a).neg (valOf a).m (-(Nat.log2 (valOf a).m : ℤ)),
      { de := isDenormal a }) := by
  obtain ⟨hu, hn, hi, -⟩ := not_special_of_finite h.1
  simp only [xtractResult, hu, hn, hi, isZero_of_ne_zero h hr, Bool.false_eq_true, if_false]
  rfl

theorem pack_int_holds {e : ℤ} (h : e.natAbs ≤ 2 ^ 64) : Holds (pack (decide (e < 0)) e.natAbs 0) e := by
  have hp := pack_integer_holds (decide (e < 0)) h
  have habs : (if decide (e < 0) then -(e.natAbs : ℝ) else e.natAbs) = e := by
    simp only [decide_eq_true_eq, Nat.cast_natAbs, Int.cast_abs]
    split_ifs with hneg
    · rw [abs_of_neg (by exact_mod_cast hneg), neg_neg]
    · exact abs_of_nonneg (by exact_mod_cast not_lt.mp hneg)
  rwa [habs] at hp

/-- The exponent of a finite number lies within its format's range. -/
theorem floorLog2_valOf {a : F80} (hf : isFinite a = true) :
    -16445 ≤ floorLog2 (valOf a).m (valOf a).e ∧ floorLog2 (valOf a).m (valOf a).e ≤ 16383 := by
  have he := valOf_exp_le a hf
  have hm := log2_le_of_lt (k := 63) (significand_lt a)
  have hlo : -16445 ≤ (valOf a).e := by
    simp only [valOf]
    split_ifs <;> omega
  unfold floorLog2
  omega

/-- The significand, with the exponent of its leading digit 0, is the number over a power of two. -/
theorem pack_significand_holds {a : F80} {ra : ℝ} (h : Holds a ra) :
    Holds (pack (valOf a).neg (valOf a).m (-(Nat.log2 (valOf a).m : ℤ))) (ra / (2 : ℝ) ^ floorLog2 (valOf a).m (valOf a).e) := by
  have hm := significand_lt a
  have hlog := log2_le_of_lt (k := 63) hm
  have hp := pack_holds (valOf a).neg (g := -(Nat.log2 (valOf a).m : ℤ)) (dvd_of_le_two_pow (w := 63) hm.le) (by omega)
    (by unfold floorLog2; omega)
  have hscale : (valOf a).m * (2 : ℝ) ^ (-(Nat.log2 (valOf a).m : ℤ)) =
      (valOf a).m * (2 : ℝ) ^ (valOf a).e / (2 : ℝ) ^ floorLog2 (valOf a).m (valOf a).e := by
    rw [mul_div_assoc, ← zpow_sub₀ two_ne_zero, floorLog2, sub_add_cancel_right]
  rwa [hscale, ← neg_div, ← ite_div, ← Val.is_iff.mp h.2] at hp

/-- Settles O34: the rule's three cases, and the exponent and the significand of a number. -/
theorem extract : Obligations.Extract := by
  refine ⟨fun s hs => xtractRule_completes (exec_ready nofun hs), fun a => ?_⟩
  obtain ⟨hu, hn, hz, hi⟩ := xtractResult_special a
  refine ⟨hu, hn, hz, hi, fun ra h hr => ?_⟩
  obtain ⟨hlo, hhi⟩ := floorLog2_valOf h.1
  rw [xtractResult_finite h hr]
  exact ⟨_, h.2.stands_abs.zpow_le (h.2.eq_zero_iff.not.mp hr), h.2.stands_abs.lt_zpow, pack_int_holds (by omega),
    pack_significand_holds h, rfl⟩

end Sys2Proof.Machine
end

section
/-! SUPPORT. FPREM and FPREM1 (spec/42_arithmetic.md R300, R301): the outcome branch by branch, and their COMMIT, which writes the
condition codes only with the remainder. -/

namespace Sys2Proof.Machine

variable {i : Instr} {s : State} {nearest : Bool} {c : NumCtx} {d : BitVec 4} {a b : F80}

/-! ## The outcome, branch by branch -/

theorem remOutcome_invalid (h : isUnsupported a || isUnsupported b || isInf a || (isZero b && !isNan a)) :
    remOutcome nearest c d a b = ⟨realIndefinite, Exc.invalid, remCodesC2 d⟩ := if_pos h

theorem remOutcome_nan (hua : isUnsupported a = false) (hub : isUnsupported b = false) (hi : isInf a = false)
    (hn : isNan a || isNan b) :
    remOutcome nearest c d a b = ⟨(nanResult2 a b).v, (nanResult2 a b).exc, remCodesC2 d⟩ := by
  have hz : (isZero b && !isNan a) = false := by
    rw [← Bool.not_eq_true]
    intro h
    obtain ⟨hz, hna⟩ := Bool.and_eq_true_iff.mp h
    obtain ⟨-, hnb, -⟩ := not_special_of_isZero hz
    simp_all
  rw [remOutcome, if_neg (by simp [hua, hub, hi, hz]), if_pos hn]

/-- a itself, when b is an infinity or a is a zero. -/
theorem remOutcome_kept (ha : isFinite a = true)
    (h : isInf b = true ∨ (isZero a = true ∧ isFinite b = true ∧ isZero b = false)) :
    remOutcome nearest c d a b = ⟨a, { de := isDenormal a || isDenormal b }, remCodesDone 0⟩ := by
  obtain ⟨hua, hna, hia, -⟩ := not_special_of_finite ha
  have hb : isUnsupported b = false ∧ isNan b = false ∧ isZero b = false ∧ (isInf b || isZero a) = true := by
    rcases h with hib | ⟨hza, hfb, hzb⟩
    · obtain ⟨hub, hnb, hzb⟩ := not_others_of_isInf hib
      exact ⟨hub, hnb, hzb, by rw [hib]; rfl⟩
    · obtain ⟨hub, hnb, -⟩ := not_special_of_finite hfb
      exact ⟨hub, hnb, hzb, by rw [hza, Bool.or_true]⟩
  obtain ⟨hub, hnb, hzb, hk⟩ := hb
  rw [remOutcome, if_neg (by simp [hua, hub, hia, hzb]), if_neg (by simp [hna, hnb]), if_pos hk]
  rfl

/-- The remainder of the reduction, for finite numbers that are not zero. -/
theorem remOutcome_reduced (ha : isFinite a = true) (hza : isZero a = false) (hb : isFinite b = true)
    (hzb : isZero b = false) :
    let y := reduce nearest (fpremN a b) (valOf a) (valOf b)
    let x := remValue c (signOf a) y
    remOutcome nearest c d a b =
      ⟨x.1, (Exc.denormalIf (isDenormal a || isDenormal b)).union x.2, remCodes d y.quot⟩ := by
  obtain ⟨hua, hna, hia, -⟩ := not_special_of_finite ha
  obtain ⟨hub, hnb, hib, -⟩ := not_special_of_finite hb
  rw [remOutcome, if_neg (by simp [hua, hub, hia, hzb]), if_neg (by simp [hna, hnb]), if_neg (by simp [hib, hza])]

theorem arithResult_nan (k : ArithOp) (hua : isUnsupported a = false) (hub : isUnsupported b = false) (hn : isNan a || isNan b) :
    arithResult k c (.reg a) (.reg b) = nanResult2 a b := by
  simp_all [arithResult, Operand.reg]

theorem denormalIf_union_clear (x : Bool) : (Exc.denormalIf x).union Exc.clear = { de := x } := by cases x <;> rfl

/-! ## No stack fault -/

theorem deliver_sf (c : RoundCtx) (neg : Bool) (x : Mag) : (deliver c neg x).exc.sf = false := by
  unfold deliver deliverWith deliverOverflow deliverUnmaskedTiny
  dsimp only
  split_ifs <;> rfl

theorem remValue_sf (c : NumCtx) (neg : Bool) (y : Reduction) : (remValue c neg y).2.sf = false := by
  unfold remValue
  split_ifs
  · rfl
  · obtain ⟨he, -⟩ := roundReg_eq_deliver c y.neg y.mag
    dsimp only
    rw [he]
    exact deliver_sf ..

theorem remOutcome_sf : (remOutcome nearest c d a b).exc.sf = false := by
  unfold remOutcome
  split_ifs
  · rfl
  · rfl
  · rfl
  · exact remValue_sf ..

/-! ## COMMIT without C1 <- 0 (R300; notes/assumptions/13.md) -/

/-- What FPREM and FPREM1 hand to COMMIT. -/
def remCommit (r : RemOutcome) : Commit := { exc := r.exc, codes := r.codes, c1Suppressed := none, ops := [.write 0 r.v] }

/-- The condition codes after COMMIT. -/
theorem finish_codes (k : Commit) (sup : Suppress) (u : State) :
    c1Of (k.finish sup u).sw = (k.codesDone sup).c1.getD (c1Of u.sw) ∧
      c320 (k.finish sup u).sw =
        ((k.codesDone sup).c3.getD (u.sw.getLsbD 14), (k.codesDone sup).c2.getD (u.sw.getLsbD 10),
          (k.codesDone sup).c0.getD (u.sw.getLsbD 8)) := by
  unfold c1Of c320
  rw [finish_sw_code _ _ _ (.inr (.inl rfl)), finish_sw_code _ _ _ (.inl rfl), finish_sw_code _ _ _ (.inr (.inr (.inl rfl))),
    finish_sw_code _ _ _ (.inr (.inr (.inr rfl)))]
  simp only [getLsbD_writeCodes]
  exact ⟨rfl, rfl⟩

/-- What a COMMIT of FPREM leaves: undisturbed, the remainder and the codes; disturbed, the stack and C1 as they were. -/
theorem remCommit_finish (s : State) (r : RemOutcome) (hsf : r.exc.sf = false) :
    let t := (remCommit r).finish ((remCommit r).suppress s.cw) s.normal.pointers
    OnlyStack s t ∧ PointersReg s t ∧ Raised s t r.exc ∧ (Undisturbed s r.exc → Wrote 0 s t s.top r.v) ∧
      (¬Undisturbed s r.exc → KeptStack s t ∧ c1Of t.sw = c1Of s.sw) := by
  refine ⟨(onlyStack_pointers s).finish rfl, pointersReg_finish s, finish_raised (remCommit r) _ s.normal.pointers,
    fun hu => ?_, fun hu => ⟨finish_disturbed (s := s.normal.pointers) (c := remCommit r) hu, ?_⟩⟩
  · have hsup : (remCommit r).suppress s.cw = .nothing := suppress_undisturbed (s := s) hu rfl
    rw [hsup, ← phys_zero]
    exact (wrote_stackOps (sameStack_rule s (remCommit r)) 0 r.v false).congr (sameStack_finish rfl)
  · have hsup : (remCommit r).suppress s.cw = .all := suppress_disturbed (s := s) (c := remCommit r) hu
    have hcodes : (remCommit r).codesDone .all = { r.codes with c1 := none } := if_pos ⟨rfl, hsf⟩
    obtain ⟨h1, -⟩ := finish_codes (remCommit r) .all s.normal.pointers
    rw [hsup, h1, hcodes]
    rfl

theorem remCommit_codes (s : State) {r : RemOutcome} {q : ℕ} (hu : Undisturbed s r.exc) (hq : r.codes = remCodesDone q) :
    let t := (remCommit r).finish ((remCommit r).suppress s.cw) s.normal.pointers
    c1Of t.sw = q.testBit 0 ∧ Codes320 t (q.testBit 1) false (q.testBit 2) := by
  have hsup : (remCommit r).suppress s.cw = .nothing := suppress_undisturbed (s := s) hu rfl
  have hcodes : (remCommit r).codesDone .nothing = remCodesDone q := (if_neg (by simp)).trans hq
  rw [hsup]
  have h := finish_codes (remCommit r) .nothing s.normal.pointers
  rw [hcodes] at h
  exact h

theorem remRule_empty (h : exec i s = .next (remRule nearest s.normal.pointers)) (he : s.isEmpty 0 || s.isEmpty 1) :
    Completes i s (Exc.stackFault, false) fun t => Wrote 0 s t s.top realIndefinite := by
  rw [remRule, if_pos (by exact he)] at h
  rw [← phys_zero]
  exact (completes_write (pop := false) h rfl rfl rfl rfl rfl :)

theorem remRule_full (h : exec i s = .next (remRule nearest s.normal.pointers)) (he : ¬(s.isEmpty 0 || s.isEmpty 1) = true) :
    let k := remCommit (remOutcome nearest (s.numCtx 64) s.drawn (s.st 0) (s.st 1))
    exec i s = .next (k.finish (k.suppress s.cw) s.normal.pointers) := by
  rw [remRule, if_neg (by exact he)] at h
  exact h.trans (congrArg _ (commit_register _ _ rfl))

theorem ruleOf_remainders {x : Instr × Bool} (hx : x ∈ ([(.fprem, false), (.fprem1, true)] : List (Instr × Bool))) :
    x.1 ≠ .wait ∧ kindOf x.1 = .waiting ∧ ruleOf x.1 = fun t => remRule x.2 t.pointers := by
  simp only [List.mem_cons, List.not_mem_nil, or_false] at hx
  rcases hx with rfl | rfl <;> exact ⟨nofun, rfl, rfl⟩

/-- The result and the flags of each branch (R300, R301). -/
theorem remOutcome_result (nearest : Bool) (c : NumCtx) (d : BitVec 4) (a b : F80) :
    let r := remOutcome nearest c d a b
    let de : Exc := { de := isDenormal a || isDenormal b }
    (isUnsupported a || isUnsupported b || isInf a || (isZero b && !isNan a) → r.v = realIndefinite ∧ r.exc = Exc.invalid) ∧
      (isUnsupported a = false → isUnsupported b = false → isInf a = false → isNan a || isNan b →
        r.v = (arithResult .add c (.reg a) (.reg b)).v ∧ r.exc = (arithResult .add c (.reg a) (.reg b)).exc) ∧
      (isFinite a = true →
        (isInf b = true ∨ (isZero a = true ∧ isFinite b = true ∧ isZero b = false) → r.v = a ∧ r.exc = de) ∧
        (isZero a = false → isFinite b = true → isZero b = false →
          let y := reduce nearest (fpremN a b) (valOf a) (valOf b)
          (y.mag.m = 0 → r.v = zeroOf (signOf a) ∧ r.exc = de) ∧
          (y.mag.m ≠ 0 → r.v = (roundReg c y.neg y.mag).v ∧ r.exc = de.union (roundReg c y.neg y.mag).exc))) := by
  refine ⟨fun h => ?_, fun hua hub hi hn => ?_, fun ha => ⟨fun h => ?_, fun hza hb hzb => ⟨fun hm => ?_, fun hm => ?_⟩⟩⟩
  · rw [remOutcome_invalid h]
    exact ⟨rfl, rfl⟩
  · rw [remOutcome_nan hua hub hi hn, arithResult_nan .add hua hub hn]
    exact ⟨rfl, rfl⟩
  · rw [remOutcome_kept ha h]
    exact ⟨rfl, rfl⟩
  · rw [remOutcome_reduced ha hza hb hzb, remValue, if_pos hm, zeroOf_eq, denormalIf_union_clear]
    exact ⟨rfl, rfl⟩
  · rw [remOutcome_reduced ha hza hb hzb, remValue, if_neg hm]
    exact ⟨rfl, rfl⟩

/-- Settles O35: one COMMIT of the outcome, whose codes are those of the reduction's quotient. -/
theorem partialRemainders : Obligations.PartialRemainders := by
  refine ⟨fun x hx s hs => ?_, remOutcome_result⟩
  obtain ⟨hw, hk, hr⟩ := ruleOf_remainders hx
  have h := exec_ready hw (hk ▸ hs)
  rw [hr] at h
  split
  · exact remRule_empty h ‹_›
  intro a b r
  obtain ⟨honly, hptr, hraised, hwrote, hkept⟩ := remCommit_finish s r remOutcome_sf
  have hcodes (ha : isFinite a = true) (hza : isZero a = false) (hb : isFinite b = true) (hzb : isZero b = false) :
      r.codes = remCodes s.drawn (reduce x.2 (fpremN a b) (valOf a) (valOf b)).quot :=
    congrArg RemOutcome.codes (remOutcome_reduced ha hza hb hzb)
  refine ⟨_, remRule_full h ‹_›, honly, hptr, hraised, hwrote, hkept, fun hu ha hza hb hzb q hq => ?_,
    fun ha hza hb hzb hq => ?_, fun hu ha hcase => ?_⟩
  · exact remCommit_codes s hu ((hcodes ha hza hb hzb).trans (congrArg _ hq))
  · have hpartial : r.codes = remCodesPartial s.drawn := (hcodes ha hza hb hzb).trans (congrArg _ hq)
    exact finish_c2 (remCommit r) _ s.normal.pointers (congrArg Codes.c2 hpartial)
  · exact remCommit_codes (q := 0) s hu (congrArg RemOutcome.codes (remOutcome_kept ha hcase))

end Sys2Proof.Machine
end

section
/-! SUPPORT. FSIN, FCOS, FPTAN and FSINCOS (spec/43_transcendental.md R306, R310, R312 to R314): the range test, the stack tests
with C2, the special operands, and the flags of a result that is never exact. -/

namespace Sys2Proof.Machine

variable {i : Instr} {s : State}

/-! ## The range (R306) -/

/-- The biased exponent tells whether a FINITE operand is out of range. -/
theorem outOfTrigRange_iff (x : F80) : outOfTrigRange x = true ↔ beyondTrigRange x := by
  simp only [outOfTrigRange, beyondTrigRange, Bool.and_eq_true, Bool.not_eq_true', decide_eq_true_eq, and_assoc]
  refine and_congr_right fun hf => ?_
  have hlt := log2_le_of_lt (k := 63) (significand_lt x)
  constructor
  · rintro ⟨-, hlog⟩
    simp only [floorLog2, valOf] at hlog hlt
    split_ifs at hlog <;> omega
  · intro he
    have hexp : expOf x ≠ 0 := by omega
    have hz : isZero x = false := Bool.eq_false_iff.mpr fun hz => hexp ((isZero_iff x).mp hz).1
    have hbit : (manOf x).getLsbD 63 = true := (((isFinite_iff x).mp hf).resolve_left hexp).2
    rw [manOf_getLsbD, testBit_63 (manOf x).isLt, decide_eq_true_eq] at hbit
    have hge : 63 ≤ Nat.log2 (manOf x).toNat := log2_ge_of_le hbit
    refine ⟨hz, ?_⟩
    simp only [floorLog2, valOf, if_neg hexp]
    omega

/-- Out of range only the pointers, the condition codes and the counter of draws change, and C2 is 1 (R306). -/
theorem trigOutOfRange_leaves (s : State) :
    let t := trigOutOfRange s.normal.pointers
    OnlyStack s t ∧ PointersReg s t ∧ KeptStack s t ∧ c2Of t.sw = true ∧ t.sw &&& 0x80FF = s.sw &&& 0x80FF := by
  refine ⟨rfl, ⟨rfl, rfl, rfl, rfl, rfl⟩, ⟨rfl, rfl, topOf_writeCodes _ _⟩, getLsbD_writeCodes _ _ 10, ?_⟩
  apply BitVec.eq_of_getLsbD_eq
  intro j hj
  rw [BitVec.getLsbD_and, BitVec.getLsbD_and, trigOutOfRange_sw, getLsbD_writeCodes]
  by_cases hcode : j = 14 ∨ j = 10 ∨ j = 9 ∨ j = 8
  · rcases hcode with rfl | rfl | rfl | rfl <;> exact (Bool.and_false _).trans (Bool.and_false _).symm
  · simp only [not_or] at hcode
    obtain ⟨h14, h10, h9, h8⟩ := hcode
    rw [if_neg h14, if_neg h10, if_neg h9, if_neg h8]
    rfl

/-! ## The rules -/

/-- C2 of an instruction that ends in a COMMIT which writes it. -/
theorem c2_of_commit {u : State} {k : Commit} {b : Bool} (h : exec i s = .next (commit k u)) (hs : k.store = none)
    (h2 : k.codes.c2 = some b) (t : State) (ht : exec i s = .next t) : c2Of t.sw = b := by
  rw [commit_register _ _ hs] at h
  obtain rfl : _ = t := Host.Outcome.next.inj (h.symm.trans ht)
  exact finish_c2 k _ u h2

theorem trigRule_empty {f : NumCtx → F80 → Result} (h : exec i s = .next (trigRule f s.normal.pointers))
    (he : s.isEmpty 0 = true) :
    Completes i s (Exc.stackFault, false) (fun t => Wrote 0 s t s.top realIndefinite) ∧
      ∀ t, exec i s = .next t → c2Of t.sw = false := by
  rw [trigRule, if_pos (by exact he)] at h
  rw [← phys_zero]
  exact ⟨(completes_write (pop := false) h rfl rfl rfl rfl rfl :), c2_of_commit h rfl rfl⟩

theorem trigRule_in_range {f : NumCtx → F80 → Result} (h : exec i s = .next (trigRule f s.normal.pointers))
    (he : s.isEmpty 0 = false) (hr : ¬beyondTrigRange (s.st 0)) :
    let r := f (s.numCtx 64) (s.st 0)
    Completes i s (r.exc, r.c1) (fun t => Wrote 0 s t s.top r.v) ∧ ∀ t, exec i s = .next t → c2Of t.sw = false := by
  rw [← outOfTrigRange_iff] at hr
  rw [trigRule, if_neg (by exact he ▸ nofun), if_neg (by exact hr)] at h
  rw [← phys_zero]
  exact ⟨(completes_write (pop := false) h rfl rfl rfl rfl rfl :), c2_of_commit h rfl rfl⟩

theorem trigRule_out_of_range {f : NumCtx → F80 → Result} {u : State} (he : u.isEmpty 0 = false)
    (hr : beyondTrigRange (u.st 0)) : trigRule f u = trigOutOfRange u := by
  rw [trigRule, if_neg (he ▸ nofun), if_pos ((outOfTrigRange_iff _).mpr hr)]

theorem trigPairRule_underflow {f : NumCtx → F80 → PairResult} (h : exec i s = .next (trigPairRule f s.normal.pointers))
    (he : s.isEmpty 0 = true) :
    Completes i s (Exc.stackFault, false) (fun t => WroteAndPushed s t realIndefinite realIndefinite) ∧
      ∀ t, exec i s = .next t → c2Of t.sw = false := by
  rw [trigPairRule, if_pos (by exact he)] at h
  exact ⟨(completes_writePush h rfl rfl rfl rfl rfl :), c2_of_commit h rfl rfl⟩

theorem trigPairRule_overflow {f : NumCtx → F80 → PairResult} (h : exec i s = .next (trigPairRule f s.normal.pointers))
    (he : s.isEmpty 0 = false) (h7 : s.isEmpty 7 = false) :
    Completes i s (Exc.stackFault, true) (fun t => WroteAndPushed s t realIndefinite realIndefinite) ∧
      ∀ t, exec i s = .next t → c2Of t.sw = false := by
  have h7' : (!s.isEmpty 7) = true := by rw [h7]; rfl
  rw [trigPairRule, if_neg (by exact he ▸ nofun), if_pos (by exact h7')] at h
  exact ⟨(completes_writePush h rfl rfl rfl rfl rfl :), c2_of_commit h rfl rfl⟩

theorem trigPairRule_in_range {f : NumCtx → F80 → PairResult} (h : exec i s = .next (trigPairRule f s.normal.pointers))
    (he : s.isEmpty 0 = false) (h7 : s.isEmpty 7 = true) (hr : ¬beyondTrigRange (s.st 0)) :
    let r := f (s.numCtx 64) (s.st 0)
    Completes i s (r.exc, r.c1) (fun t => WroteAndPushed s t r.first r.second) ∧
      ∀ t, exec i s = .next t → c2Of t.sw = false := by
  have h7' : ¬(!s.isEmpty 7) = true := by rw [h7]; nofun
  rw [← outOfTrigRange_iff] at hr
  rw [trigPairRule, if_neg (by exact he ▸ nofun), if_neg (by exact h7'), if_neg (by exact hr)] at h
  exact ⟨(completes_writePush h rfl rfl rfl rfl rfl :), c2_of_commit h rfl rfl⟩

theorem trigPairRule_out_of_range {f : NumCtx → F80 → PairResult} {u : State} (he : u.isEmpty 0 = false)
    (h7 : u.isEmpty 7 = true) (hr : beyondTrigRange (u.st 0)) : trigPairRule f u = trigOutOfRange u := by
  rw [trigPairRule, if_neg (he ▸ nofun), h7, if_neg nofun, if_pos ((outOfTrigRange_iff _).mpr hr)]

/-- Out of range each of the four rules is `trigOutOfRange`. -/
theorem ruleOf_trig_out_of_range (hi : i ∈ [Instr.fptan, .fsin, .fcos, .fsincos]) (he : s.isEmpty 0 = false)
    (h7 : i = .fptan ∨ i = .fsincos → s.isEmpty 7 = true) (hr : beyondTrigRange (s.st 0)) :
    i ≠ .wait ∧ kindOf i = .waiting ∧ ruleOf i s.normal = trigOutOfRange s.normal.pointers := by
  simp only [List.mem_cons, List.not_mem_nil, or_false] at hi
  rcases hi with rfl | rfl | rfl | rfl
  · exact ⟨nofun, rfl, trigPairRule_out_of_range he (h7 (.inl rfl)) hr⟩
  · exact ⟨nofun, rfl, trigRule_out_of_range he hr⟩
  · exact ⟨nofun, rfl, trigRule_out_of_range he hr⟩
  · exact ⟨nofun, rfl, trigPairRule_out_of_range he (h7 (.inr rfl)) hr⟩

end Sys2Proof.Machine

namespace Sys2Proof
open Machine

/-- Settles O39: each rule comes to the model's `trigOutOfRange`, which writes the condition codes alone. -/
theorem trigOutOfRange : Obligations.TrigOutOfRange := by
  intro i hi s hs he h7 hr
  obtain ⟨hw, hk, hrule⟩ := ruleOf_trig_out_of_range hi he h7 hr
  exact ⟨_, run_rule hw (hk ▸ hs) hrule, trigOutOfRange_leaves s⟩

end Sys2Proof
end

section
/-! SUPPORT. The results of FSIN, FCOS, FPTAN and FSINCOS (spec/43_transcendental.md R305, R310, R312 to R314): the special
operands, the flags of a result that is never exact, and FCOS of a denormal. -/

namespace Sys2Proof.Machine

/-! ## Delivery of a result that is not exact (R160 to R163, R305) -/

theorem roundAt_sticky (rc : RC) (neg : Bool) {x : Mag} (hx : x.sticky = true) (g : ℤ) :
    (roundAt rc neg x g).inexact = true := by
  unfold roundAt
  dsimp only
  split_ifs <;> simp [hx]

/-- A sticky magnitude is no number of the format: PE is raised, with OE and UE as they may be. -/
theorem deliverWith_sticky_exc {c : RoundCtx} (hc : c.toMemory = false) (rc : RC) (neg : Bool) {x : Mag}
    (hx : x.sticky = true) :
    let e := (deliverWith c rc neg x).exc
    e = { oe := e.oe, ue := e.ue, pe := true } := by
  have hpe {z : Mag} (hz : z.sticky = true) : (roundTo c.fmt rc neg z).inexact = true := roundAt_sticky rc neg hz _
  unfold deliverWith deliverOverflow deliverUnmaskedTiny
  dsimp only
  split_ifs <;> simp_all

theorem toResult_exc (d : Delivery) (neg : Bool) (free : F80) : (d.toResult neg free).exc = d.exc := by
  unfold Delivery.toResult
  split <;> rfl

/-- An inexact result of TRANS raises PE, and no IE, DE or ZE of its own. -/
theorem transResult_exc (f : TransFn) (c : NumCtx) (a b : Val) {y : Real2} (hy : y.mag.sticky = true) :
    let e := (transResult f c a b y).exc
    e = { oe := e.oe, ue := e.ue, pe := true } := by
  rw [transResult, toResult_exc]
  exact deliverWith_sticky_exc rfl _ _ hy

/-- With DE added. -/
theorem withDE_exc {r : Result} (hr : r.exc = { oe := r.exc.oe, ue := r.exc.ue, pe := true }) (d : Bool) :
    (r.withDE d).exc = { de := d, oe := (r.withDE d).exc.oe, ue := (r.withDE d).exc.ue, pe := true } := by
  unfold Result.withDE
  rw [hr]
  cases d <;> rfl

/-- The sine, the cosine and the tangent of a nonzero value are never exact. -/
theorem sinOf_sticky (x : Val) : (sinOf x).mag.sticky = true := by
  unfold sinOf
  split_ifs <;> rfl

theorem cosOf_sticky (x : Val) : (cosOf x).mag.sticky = true := by
  unfold cosOf
  split_ifs <;> rfl

theorem tanOf_sticky (x : Val) : (tanOf x).mag.sticky = true := by
  unfold tanOf
  dsimp only
  split_ifs <;> rfl

/-! ## Special operands (R166, R167, D42) -/

section Operands
variable {α : Type} {f nan rest : F80 → α} {invalid : α}

/-- Unsupported patterns, infinities and NaNs come before the finite operands. -/
theorem trig_special_operands
    (hf : ∀ a, f a = if isUnsupported a || isInf a then invalid else if isNan a then nan a else rest a) (a : F80) :
    (isUnsupported a || isInf a → f a = invalid) ∧ (isNan a = true → f a = nan a) := by
  rw [hf]
  refine ⟨fun h => if_pos h, fun hn => ?_⟩
  have hi : isInf a = false := by
    rw [← Bool.not_eq_true]
    intro hi
    obtain ⟨-, hnot, -⟩ := not_others_of_isInf hi
    exact Bool.false_ne_true (hnot.symm.trans hn)
  rw [isUnsupported_of_isNan hn, hi, hn]
  rfl

theorem trig_finite_operand
    (hf : ∀ a, f a = if isUnsupported a || isInf a then invalid else if isNan a then nan a else rest a) {a : F80}
    (ha : isFinite a = true) : f a = rest a := by
  obtain ⟨hu, hn, hi, -⟩ := not_special_of_finite ha
  rw [hf, hu, hi, hn]
  rfl

end Operands

variable {c : NumCtx} {a : F80}

theorem sinResult_finite (ha : isFinite a = true) :
    sinResult c a = if isZero a then Result.exact a else (sinF c (valOf a)).withDE (isDenormal a) :=
  trig_finite_operand (f := sinResult c) (fun _ => rfl) ha

theorem cosResult_finite (ha : isFinite a = true) :
    cosResult c a = if isZero a then Result.exact (oneF80 false) else (cosF c (valOf a)).withDE (isDenormal a) :=
  trig_finite_operand (f := cosResult c) (fun _ => rfl) ha

theorem ptanResult_finite (ha : isFinite a = true) :
    ptanResult c a =
      if isZero a then ⟨a, oneF80 false, Exc.clear, false⟩
      else
        let t := (tanF c (valOf a)).withDE (isDenormal a)
        ⟨t.v, oneF80 false, t.exc, t.c1⟩ :=
  trig_finite_operand (f := ptanResult c) (fun _ => rfl) ha

theorem sincosResult_finite (ha : isFinite a = true) :
    sincosResult c a =
      if isZero a then ⟨a, oneF80 false, Exc.clear, false⟩
      else
        let x := (sinF c (valOf a)).withDE (isDenormal a)
        let y := cosF c (valOf a)
        ⟨x.v, y.v, x.exc.union y.exc, x.c1⟩ :=
  trig_finite_operand (f := sincosResult c) (fun _ => rfl) ha

theorem isFinite_of_isZero {a : F80} (h : isZero a = true) : isFinite a = true := by simp [isFinite, h]

theorem isFinite_of_isDenormal {a : F80} (h : isDenormal a = true) : isFinite a = true := by simp [isFinite, h]

/-! ## FCOS of a denormal (R313) -/

/-- A result in the range of the normal numbers is what rounding gives. -/
theorem deliverWith_normal {c : RoundCtx} {rc : RC} {neg : Bool} {x : Mag} {y : Rounded} (hy : roundTo c.fmt rc neg x = y)
    (hmax : floorLog2 y.q y.g ≤ c.fmt.emax) (ht : isTiny c.tininess c.fmt rc neg x = false) :
    deliverWith c rc neg x = ⟨.finite y.q y.g, { pe := y.inexact }, y.up⟩ := by
  simp [deliverWith, hy, not_lt.mpr hmax, ht]

/-- The value just below 1 lies between 1 - 2^-64 and 1: the direction chooses one of the two. -/
theorem justBelow_one_delivered {c : RoundCtx} (hc : c.fmt = extFmt 64) (away : Bool) :
    deliverWith c (neighbour away false) false (justBelow 1 0) =
      if away then ⟨.finite (2 ^ 64) (-64), { pe := true }, true⟩
      else ⟨.finite (2 ^ 64 - 1) (-64), { pe := true }, false⟩ := by
  have ht (t : Tininess) (away : Bool) : isTiny t (extFmt 64) (neighbour away false) false (justBelow 1 0) = false := by
    cases t <;> cases away <;> decide
  cases away
  · exact deliverWith_normal (y := ⟨2 ^ 64 - 1, -64, true, false⟩) (by rw [hc]; decide) (by rw [hc]; decide) (by rw [hc, ht])
  · exact deliverWith_normal (y := ⟨2 ^ 64, -64, true, true⟩) (by rw [hc]; decide) (by rw [hc]; decide) (by rw [hc, ht])

theorem cosOf_denormal (h : isDenormal a = true) : cosOf (valOf a) = ⟨false, justBelow 1 0⟩ := by
  have he := ((isDenormal_iff a).mp h).1
  have hlog := log2_le_of_lt (k := 63) (significand_lt a)
  refine if_pos ?_
  simp only [floorLog2, valOf, if_pos he] at hlog ⊢
  omega

/-- FCOS of a denormal: 1.0 with C1 set, or the value just below it. -/
theorem cosResult_denormal (hp : c.p = 64) (h : isDenormal a = true) :
    let r := cosResult c a
    r.exc = { de := true, pe := true } ∧
      ((r.v = 0x3FFF8000000000000000 ∧ r.c1 = true) ∨ (r.v = 0x3FFEFFFFFFFFFFFFFFFF ∧ r.c1 = false)) := by
  have hz : isZero a = false := Bool.eq_false_iff.mpr fun hz => ((isDenormal_iff a).mp h).2 ((isZero_iff a).mp hz).2
  have hfmt : c.round.fmt = extFmt 64 := congrArg extFmt hp
  have hdown : pack false (2 ^ 64 - 1) (-64) = 0x3FFEFFFFFFFFFFFFFFFF := by decide
  have hup : pack false (2 ^ 64) (-64) = 0x3FFF8000000000000000 := by decide
  rw [cosResult_finite (isFinite_of_isDenormal h), hz, if_neg nofun, h, cosF, cosOf_denormal h, transResult,
    justBelow_one_delivered hfmt]
  cases Config.transAway .cos (packVal (valOf a)) (packVal noVal) (rcOf c.cw)
  · exact ⟨rfl, .inr ⟨hdown, rfl⟩⟩
  · exact ⟨rfl, .inl ⟨hup, rfl⟩⟩

/-! ## The flags of a nonzero operand -/

theorem sinResult_exc (ha : isFinite a = true) (hz : isZero a = false) :
    let r := sinResult c a
    r.exc = { de := isDenormal a, oe := r.exc.oe, ue := r.exc.ue, pe := true } := by
  rw [sinResult_finite ha, hz]
  exact withDE_exc (transResult_exc _ _ _ _ (sinOf_sticky _)) _

theorem cosResult_exc (ha : isFinite a = true) (hz : isZero a = false) :
    let r := cosResult c a
    r.exc = { de := isDenormal a, oe := r.exc.oe, ue := r.exc.ue, pe := true } := by
  rw [cosResult_finite ha, hz]
  exact withDE_exc (transResult_exc _ _ _ _ (cosOf_sticky _)) _

/-- FPTAN pushes 1.0. -/
theorem ptanResult_nonzero (ha : isFinite a = true) (hz : isZero a = false) :
    let r := ptanResult c a
    r.second = 0x3FFF8000000000000000 ∧ r.exc = { de := isDenormal a, oe := r.exc.oe, ue := r.exc.ue, pe := true } := by
  rw [ptanResult_finite ha, hz]
  exact ⟨rfl, withDE_exc (transResult_exc _ _ _ _ (tanOf_sticky _)) _⟩

/-- DE of the one result covers DE of the other. -/
theorem union_withDE (x y : Result) (d : Bool) : (x.withDE d).exc.union y.exc = (x.withDE d).exc.union (y.withDE d).exc := by
  cases d <;> simp [Result.withDE, Exc.union, Exc.denormalIf]

/-- FSINCOS gives both results, with the flags of either. -/
theorem sincosResult_nonzero (ha : isFinite a = true) (hz : isZero a = false) :
    sincosResult c a =
      ⟨(sinResult c a).v, (cosResult c a).v, (sinResult c a).exc.union (cosResult c a).exc, (sinResult c a).c1⟩ := by
  rw [sincosResult_finite ha, sinResult_finite ha, cosResult_finite ha, hz, if_neg nofun, if_neg nofun, if_neg nofun,
    ← union_withDE]
  rfl

/-! ## The statements -/

theorem ruleOf_sine_cosine {x : Instr × (NumCtx → F80 → Result)}
    (hx : x ∈ ([(.fsin, sinResult), (.fcos, cosResult)] : List (Instr × (NumCtx → F80 → Result)))) :
    x.1 ≠ .wait ∧ kindOf x.1 = .waiting ∧ ruleOf x.1 = fun t => trigRule x.2 t.pointers := by
  simp only [List.mem_cons, List.not_mem_nil, or_false] at hx
  rcases hx with rfl | rfl <;> exact ⟨nofun, rfl, rfl⟩

theorem ruleOf_trig_pairs {x : Instr × (NumCtx → F80 → PairResult)}
    (hx : x ∈ ([(.fptan, ptanResult), (.fsincos, sincosResult)] : List (Instr × (NumCtx → F80 → PairResult)))) :
    x.1 ≠ .wait ∧ kindOf x.1 = .waiting ∧ ruleOf x.1 = fun t => trigPairRule x.2 t.pointers := by
  simp only [List.mem_cons, List.not_mem_nil, or_false] at hx
  rcases hx with rfl | rfl <;> exact ⟨nofun, rfl, rfl⟩

/-- Settles O37: the rule's cases, the special operands in their order, and the flags of a sine or cosine that is not exact. -/
theorem sineCosine : Obligations.SineCosine := by
  refine ⟨fun x hx s hs => ?_, fun c a => ⟨fun f hf => ?_, fun hz => ?_, fun hp hd => cosResult_denormal hp hd⟩⟩
  · obtain ⟨hw, hk, hr⟩ := ruleOf_sine_cosine hx
    have h := exec_ready hw (hk ▸ hs)
    rw [hr] at h
    exact ⟨trigRule_empty h, trigRule_in_range h⟩
  · simp only [List.mem_cons, List.not_mem_nil, or_false] at hf
    rcases hf with rfl | rfl
    · obtain ⟨hinvalid, hnan⟩ := trig_special_operands (f := sinResult c) (fun _ => rfl) a
      exact ⟨hinvalid, hnan, fun ha hz _ => sinResult_exc ha hz⟩
    · obtain ⟨hinvalid, hnan⟩ := trig_special_operands (f := cosResult c) (fun _ => rfl) a
      exact ⟨hinvalid, hnan, fun ha hz _ => cosResult_exc ha hz⟩
  · have ha := isFinite_of_isZero hz
    exact ⟨(sinResult_finite ha).trans (if_pos hz), (cosResult_finite ha).trans (if_pos hz)⟩

/-- Settles O38: the rule's cases, the special operands in their order, and the two results of a nonzero operand. -/
theorem tangentSineCosine : Obligations.TangentSineCosine := by
  refine ⟨fun x hx s hs => ?_, fun c a => ⟨fun f hf => ?_, fun ha hz _ =>
    ⟨ptanResult_nonzero ha hz, sincosResult_nonzero ha hz⟩⟩⟩
  · obtain ⟨hw, hk, hr⟩ := ruleOf_trig_pairs hx
    have h := exec_ready hw (hk ▸ hs)
    rw [hr] at h
    exact ⟨trigPairRule_underflow h, trigPairRule_overflow h, trigPairRule_in_range h⟩
  · simp only [List.mem_cons, List.not_mem_nil, or_false] at hf
    rcases hf with rfl | rfl
    · obtain ⟨hinvalid, hnan⟩ := trig_special_operands (f := ptanResult c) (fun _ => rfl) a
      exact ⟨hinvalid, hnan, fun hz => (ptanResult_finite (isFinite_of_isZero hz)).trans (if_pos hz)⟩
    · obtain ⟨hinvalid, hnan⟩ := trig_special_operands (f := sincosResult c) (fun _ => rfl) a
      exact ⟨hinvalid, hnan, fun hz => (sincosResult_finite (isFinite_of_isZero hz)).trans (if_pos hz)⟩

end Sys2Proof.Machine
end

section
/-! SUPPORT. FYL2X, FYL2XP1 and FPATAN (spec/43_transcendental.md R308, R309, R311): the rule, the order of the special operands,
the range tests against the reals, and the tables of FYL2X and FYL2XP1. -/

namespace Sys2Proof.Machine

variable {i : Instr} {s : State} {c : NumCtx} {d : Draw} {x y : F80} {rx : ℝ}

/-! ## The rule -/

/-- An instruction of `replacePopRule` writes its function of ST(0) and ST(1) to ST(1) and pops. -/
theorem replacePopRule_completes {f : NumCtx → F80 → F80 → Result} {g : F80 → F80 → Result}
    (h : exec i s = .next (replacePopRule f s.normal.pointers)) (hg : f (s.numCtx 64) = g) :
    if s.isEmpty 0 || s.isEmpty 1 then
      Completes i s (Exc.stackFault, false) fun t => Wrote 1 s t (s.phys 1) realIndefinite
    else
      let r := g (s.st 0) (s.st 1)
      Completes i s (r.exc, r.c1) fun t => Wrote 1 s t (s.phys 1) r.v := by
  have hempty (j : BitVec 3) : s.normal.pointers.isEmpty j = s.isEmpty j := rfl
  have hst (j : BitVec 3) : s.normal.pointers.st j = s.st j := rfl
  have hctx : s.normal.pointers.numCtx 64 = s.numCtx 64 := rfl
  unfold replacePopRule at h
  rw [hempty, hempty, hst, hst, hctx, hg] at h
  split at h
  · rw [if_pos ‹_›]
    exact (completes_write (pop := true) h rfl rfl rfl rfl rfl :)
  · rw [if_neg ‹_›]
    exact (completes_write (pop := true) h rfl rfl rfl rfl rfl :)

/-- Each form is `replacePopRule` of its function. -/
theorem ruleOf_twoOperandForms {z : Instr × (State → F80 → F80 → Result)} (hz : z ∈ twoOperandForms) :
    z.1 ≠ .wait ∧ kindOf z.1 = .waiting ∧ ∃ f : State → NumCtx → F80 → F80 → Result,
      (ruleOf z.1 = fun t => replacePopRule (f t) t.pointers) ∧ ∀ s : State, f s.normal (s.numCtx 64) = z.2 s := by
  simp only [twoOperandForms, List.mem_cons, List.not_mem_nil, or_false] at hz
  rcases hz with rfl | rfl | rfl
  · exact ⟨nofun, rfl, fun _ => yl2xResult, rfl, fun _ => rfl⟩
  · exact ⟨nofun, rfl, fun t => yl2xp1Result t.draw, rfl, fun _ => rfl⟩
  · exact ⟨nofun, rfl, fun _ => patanResult, rfl, fun _ => rfl⟩

/-! ## Unsupported operands and NaNs -/

/-- Unsupported operands and NaNs come before an instruction's own cases. -/
theorem two_special_operands {f rest : F80 → F80 → Result}
    (hf : ∀ x y, f x y =
      if isUnsupported x || isUnsupported y then Result.invalid else if isNan x || isNan y then nanResult2 x y else rest x y)
    (c : NumCtx) (x y : F80) :
    (isUnsupported x || isUnsupported y → f x y = ⟨realIndefinite, Exc.invalid, false⟩) ∧
      (isUnsupported x = false → isUnsupported y = false → isNan x || isNan y →
        f x y = arithResult .add c (.reg x) (.reg y)) := by
  rw [hf]
  refine ⟨fun h => if_pos h, fun hux huy hn => ?_⟩
  rw [arithResult_nan .add hux huy hn, hux, huy, if_neg nofun, if_pos hn]

/-- A number is FINITE or an INFINITY. -/
theorem not_special_of_number (h : isFinite x || isInf x) : isUnsupported x = false ∧ isNan x = false := by
  rcases Bool.or_eq_true_iff.mp h with hf | hi
  · obtain ⟨hu, hn, -⟩ := not_special_of_finite hf
    exact ⟨hu, hn⟩
  · obtain ⟨hu, hn, -⟩ := not_others_of_isInf hi
    exact ⟨hu, hn⟩

section Numbers
variable (hx : isFinite x || isInf x) (hy : isFinite y || isInf y) {rest : Result}
include hx hy

/-- Of numbers the result is the instruction's own, with DE unless it is an invalid operation or a zero divide. -/
theorem twoOperandResult_number :
    twoOperandResult x y rest =
      if rest.exc.ie || rest.exc.ze then rest else rest.withDE (isDenormal x || isDenormal y) := by
  obtain ⟨hux, hnx⟩ := not_special_of_number hx
  obtain ⟨huy, hny⟩ := not_special_of_number hy
  rw [twoOperandResult, hux, huy, hnx, hny]
  rfl

theorem twoOperandResult_class3 (h : rest.exc.ie || rest.exc.ze) : twoOperandResult x y rest = rest := by
  rw [twoOperandResult_number hx hy, if_pos h]

theorem twoOperandResult_exact {v : F80} (h : rest = Result.exact v) :
    twoOperandResult x y rest = ⟨v, { de := isDenormal x || isDenormal y }, false⟩ := by
  rw [twoOperandResult_number hx hy, h, if_neg nofun, withDE_exact]

end Numbers

/-! ## The range tests against the reals -/

/-- The exponent of a nonzero value bounds its magnitude. -/
theorem zpow_le_abs_iff {v : Val} {r : ℝ} (h : v.Is r) (hr : r ≠ 0) (k : ℤ) :
    (2 : ℝ) ^ k ≤ |r| ↔ k ≤ floorLog2 v.m v.e :=
  h.stands_abs.zpow_le_iff (h.eq_zero_iff.not.mp hr) k

theorem belowOne_iff {v : Val} {r : ℝ} (h : v.Is r) (hr : r ≠ 0) : belowOne v = true ↔ |r| < 1 := by
  rw [belowOne, decide_eq_true_eq, ← not_le, ← zpow_le_abs_iff h hr, zpow_zero, not_le]

/-- A power of two with exponent 0 is 1. -/
theorem isOne_iff {v : Val} {r : ℝ} (h : v.Is r) : isOne v = true ↔ |r| = 1 := by
  have hpow (hlog : floorLog2 v.m v.e = 0) : (2 : ℝ) ^ Nat.log2 v.m * (2 : ℝ) ^ v.e = 1 := by
    rw [pow_mul_zpow, ← floorLog2, hlog, zpow_zero]
  rw [isOne, Bool.and_eq_true, decide_eq_true_eq, beq_iff_eq]
  constructor
  · rintro ⟨hlog, hm⟩
    rw [h.abs_eq, hm, Nat.cast_pow, Nat.cast_ofNat, hpow hlog]
  · intro h1
    have hr : r ≠ 0 := abs_pos.mp (h1 ▸ one_pos)
    have hlo := (zpow_le_abs_iff h hr 0).mp (by rw [h1, zpow_zero])
    have hhi := (zpow_le_abs_iff h hr 1).not.mp (by rw [h1]; norm_num)
    have hlog : floorLog2 v.m v.e = 0 := by omega
    refine ⟨hlog, ?_⟩
    have heq := (h.abs_eq.symm.trans h1).trans (hpow hlog).symm
    exact_mod_cast mul_right_cancel₀ (by positivity : (2 : ℝ) ^ v.e ≠ 0) heq

/-- `1 - √2/2` lies between 1/4 and 1/2. -/
theorem one_sub_half_sqrt_two_bounds : (2 : ℝ) ^ (-2 : ℤ) < 1 - √2 / 2 ∧ 1 - √2 / 2 < (2 : ℝ) ^ (-1 : ℤ) := by
  have h1 : √2 < 3 / 2 := (Real.sqrt_lt' (by norm_num)).mpr (by norm_num)
  have h2 : 1 < √2 := Real.lt_sqrt_of_sq_lt (by norm_num)
  constructor <;> norm_num <;> linarith

/-- For a magnitude a below 1, `a < 1 - √2/2` is `2 * (1 - a)^2 > 1`. -/
theorem lt_one_sub_half_sqrt_two_iff {a : ℝ} (ha : a < 1) : a < 1 - √2 / 2 ↔ 1 < 2 * ((1 - a) * (1 - a)) := by
  have hs : (√2 / 2) ^ 2 = 1 / 2 := by rw [div_pow, Real.sq_sqrt (by norm_num)]; norm_num
  calc a < 1 - √2 / 2 ↔ √2 / 2 < 1 - a := lt_sub_comm
    _ ↔ (√2 / 2) ^ 2 < (1 - a) ^ 2 := (pow_lt_pow_iff_left₀ (by positivity) (by linarith) two_ne_zero).symm
    _ ↔ 1 < 2 * ((1 - a) * (1 - a)) := by rw [hs, sq]; constructor <;> intro h <;> linarith

/-- With exponent -2 the model's integer test is the real one, in units of `2^e`. -/
theorem log2p1_test_iff {v : Val} {r : ℝ} (h : v.Is r) (hlog : floorLog2 v.m v.e = -2) :
    let one := 2 ^ (Nat.log2 v.m + 2)
    one * one < 2 * ((one - v.m) * (one - v.m)) ↔ |r| < 1 - √2 / 2 := by
  intro one
  have hu : (0 : ℝ) < (2 : ℝ) ^ v.e := by positivity
  have hone : (one : ℝ) * (2 : ℝ) ^ v.e = 1 := by
    rw [Nat.cast_pow, Nat.cast_ofNat, pow_mul_zpow, show ((Nat.log2 v.m + 2 : ℕ) : ℤ) + v.e = 0 by
      unfold floorLog2 at hlog; omega, zpow_zero]
  have hlt : v.m < one := Nat.lt_log2_self.trans (Nat.pow_lt_pow_right one_lt_two (by omega))
  have hltR : (v.m : ℝ) < one := by exact_mod_cast hlt
  have habs : |r| < 1 := by rw [h.abs_eq, ← hone]; gcongr
  have hdiff : 1 - |r| = (one - v.m : ℕ) * (2 : ℝ) ^ v.e := by rw [h.abs_eq, Nat.cast_sub hlt.le, sub_mul, hone]
  have hsq : ((one * one : ℕ) : ℝ) * ((2 : ℝ) ^ v.e * (2 : ℝ) ^ v.e) = 1 := by
    rw [Nat.cast_mul, mul_mul_mul_comm, hone, mul_one]
  rw [lt_one_sub_half_sqrt_two_iff habs, hdiff, ← Nat.cast_lt (α := ℝ), ← mul_lt_mul_iff_of_pos_right (mul_pos hu hu), hsq,
    Nat.cast_mul, Nat.cast_mul, mul_mul_mul_comm _ ((2 : ℝ) ^ v.e), mul_assoc, Nat.cast_ofNat]

theorem inLog2p1Range_iff {v : Val} {r : ℝ} (h : v.Is r) (hr : r ≠ 0) :
    inLog2p1Range v = true ↔ |r| < 1 - √2 / 2 := by
  obtain ⟨hquarter, hhalf⟩ := one_sub_half_sqrt_two_bounds
  have hle := zpow_le_abs_iff h hr
  rw [inLog2p1Range, Bool.or_eq_true, Bool.and_eq_true, decide_eq_true_eq, decide_eq_true_eq]
  rcases lt_trichotomy (floorLog2 v.m v.e) (-2) with hlog | hlog | hlog
  · refine iff_of_true (.inl hlog) (lt_trans ?_ hquarter)
    rw [← not_le, hle]
    omega
  · rw [or_iff_right (by omega), and_iff_right hlog, decide_eq_true_eq]
    exact log2p1_test_iff h hlog
  · refine iff_of_false (by omega) (not_lt.mpr (hhalf.le.trans ?_))
    rw [hle]
    omega

/-! ## Classes -/

/-- A pattern is put together from its fields. -/
theorem mkF80_fields (v : F80) : mkF80 (signOf v) (expOf v) (manOf v).toNat = v := by
  have hm : (manOf v).toNat = v.toNat % 2 ^ 64 := BitVec.extractLsb'_toNat ..
  have he : expOf v = v.toNat / 2 ^ 64 % 2 ^ 15 := (BitVec.extractLsb'_toNat ..).trans (by rw [Nat.shiftRight_eq_div_pow])
  have hs : (signOf v).toNat = v.toNat / 2 ^ 79 % 2 := Nat.toNat_testBit ..
  apply BitVec.eq_of_toNat_eq
  rw [mkF80_toNat _ (by omega) (manOf v).isLt, hs, he, hm]
  omega

theorem eq_zeroOf (h : isZero x = true) : x = zeroOf (signOf x) := by
  obtain ⟨he, hm⟩ := (isZero_iff x).mp h
  have := mkF80_fields x
  rw [he, hm] at this
  rw [zeroOf_eq]
  exact this.symm

theorem eq_infinityOf (h : isInf x = true) : x = infinityOf (signOf x) := by
  have hfields : expOf x = 0x7FFF ∧ manOf x = 0x8000000000000000 := by
    revert h
    unfold isInf classOf
    dsimp only
    split_ifs <;> simp_all
  obtain ⟨he, hm⟩ := hfields
  have := mkF80_fields x
  rw [he, hm] at this
  rw [infinityOf_eq]
  exact this.symm

/-- An INFINITY is in no class of finite patterns. -/
theorem class_of_isInf (h : isInf x = true) : isFinite x = false ∧ isZero x = false ∧ isDenormal x = false := by
  revert h
  unfold isFinite isInf isZero isDenormal
  cases classOf x <;> decide

theorem not_denormal_of_isZero (h : isZero x = true) : isDenormal x = false := by
  revert h
  unfold isZero isDenormal
  cases classOf x <;> decide

theorem isFinite_of_number (h : isFinite x || isInf x) (hi : isInf x = false) : isFinite x = true := by
  rwa [hi, Bool.or_false] at h

/-- A positive number has sign 0. -/
theorem signOf_of_pos (h : Holds x rx) (hr : 0 < rx) : signOf x = false := by
  rw [← Bool.not_eq_true]
  intro hs
  have := h.2.eq_abs
  rw [show (valOf x).neg = true from hs, if_pos rfl] at this
  linarith [abs_nonneg rx]

/-! ## FYL2X (R308) -/

theorem yl2xF_negative (hs : signOf x = true) (hz : isZero x = false) : yl2xF c x y = Result.invalid := by
  rw [yl2xF, hs, hz]
  rfl

theorem yl2xF_zero (hz : isZero x = true) :
    yl2xF c x y =
      if isZero y then Result.invalid
      else if isInf y then Result.exact (infF80 (!signOf y))
      else ⟨infF80 (!signOf y), { ze := true }, false⟩ := by
  rw [yl2xF, hz, Bool.not_true, Bool.and_false, if_neg nofun, if_pos rfl]

theorem yl2xF_infinity :
    yl2xF c (infinityOf false) y = if isZero y then Result.invalid else Result.exact (infF80 (signOf y)) := rfl

/-- A positive finite x. -/
theorem yl2xF_positive (h : Holds x rx) (hr : 0 < rx) :
    yl2xF c x y =
      if isOne (valOf x) then if isInf y then Result.invalid else Result.exact (zeroF80 (signOf y))
      else if isInf y then Result.exact (infF80 (signOf y != belowOne (valOf x)))
      else if isZero y then Result.exact (zeroF80 (signOf y != belowOne (valOf x)))
      else transResult .log2 c (valOf x) (valOf y) (timesVal (valOf y) (log2Of (valOf x))) := by
  obtain ⟨-, -, hi, -⟩ := not_special_of_finite h.1
  rw [yl2xF, signOf_of_pos h hr, isZero_of_ne_zero h hr.ne', hi]
  rfl

section Numbers
variable (hx : isFinite x || isInf x) (hy : isFinite y || isInf y)
include hx hy

theorem yl2xResult_invalid (h : yl2xF c x y = Result.invalid) :
    yl2xResult c x y = ⟨realIndefinite, Exc.invalid, false⟩ :=
  (twoOperandResult_class3 hx hy (h ▸ rfl)).trans h

theorem yl2xResult_exact {v : F80} (h : yl2xF c x y = Result.exact v) :
    yl2xResult c x y = ⟨v, { de := isDenormal x || isDenormal y }, false⟩ :=
  twoOperandResult_exact hx hy h

/-- The logarithm of zero is -∞: a zero divide, unless y is a zero or an infinity. -/
theorem yl2xResult_zero (hz : isZero x = true) (hzy : isZero y = false) :
    yl2xResult c x y = ⟨infinityOf (!signOf y), { ze := isFinite y }, false⟩ := by
  have hrest := yl2xF_zero (c := c) (y := y) hz
  rw [hzy, if_neg nofun] at hrest
  rw [infinityOf_eq]
  cases hi : isInf y
  · rw [hi, if_neg nofun] at hrest
    rw [isFinite_of_number hy hi]
    exact (twoOperandResult_class3 hx hy (hrest ▸ rfl)).trans hrest
  · obtain ⟨hf, -, hd⟩ := class_of_isInf hi
    rw [hi, if_pos rfl] at hrest
    rw [yl2xResult_exact hx hy hrest, not_denormal_of_isZero hz, hd, hf]
    rfl

/-- The logarithm of 1 is zero. -/
theorem yl2xResult_one (h : Holds x 1) :
    (isInf y = true → yl2xResult c x y = ⟨realIndefinite, Exc.invalid, false⟩) ∧
      (isFinite y = true → yl2xResult c x y = ⟨zeroOf (signOf y), { de := isDenormal x || isDenormal y }, false⟩) := by
  have hrest := yl2xF_positive (c := c) (y := y) h one_pos
  rw [if_pos ((isOne_iff h.2).mpr abs_one)] at hrest
  refine ⟨fun hi => yl2xResult_invalid hx hy (hrest.trans (if_pos hi)), fun hf => ?_⟩
  obtain ⟨-, -, hi, -⟩ := not_special_of_finite hf
  rw [zeroOf_eq]
  exact yl2xResult_exact hx hy (hrest.trans (if_neg (hi ▸ nofun)))

/-- The logarithm of another positive number is negative below 1 and positive above. -/
theorem yl2xResult_positive (h : Holds x rx) (hr : 0 < rx) (hne : rx ≠ 1) {below : Bool} (hb : below = true ↔ rx < 1) :
    let de : Exc := { de := isDenormal x || isDenormal y }
    (isInf y = true → yl2xResult c x y = ⟨infinityOf (signOf y != below), de, false⟩) ∧
      (isZero y = true → yl2xResult c x y = ⟨zeroOf (signOf y != below), de, false⟩) := by
  have hone : ¬isOne (valOf x) = true := by rwa [isOne_iff h.2, abs_of_pos hr]
  have hbelow : belowOne (valOf x) = below := by rw [Bool.eq_iff_iff, belowOne_iff h.2 hr.ne', abs_of_pos hr, hb]
  have hrest := yl2xF_positive (c := c) (y := y) h hr
  rw [if_neg hone, hbelow, ← infinityOf_eq, ← zeroOf_eq] at hrest
  refine ⟨fun hi => yl2xResult_exact hx hy (hrest.trans (if_pos hi)), fun hz => yl2xResult_exact hx hy (hrest.trans ?_)⟩
  obtain ⟨-, -, hi⟩ := not_special_of_isZero hz
  rw [if_neg (hi ▸ nofun), if_pos hz]

/-- The table of R308. -/
theorem yl2xResult_special (c : NumCtx) :
    let sy := signOf y
    let de : Exc := { de := isDenormal x || isDenormal y }
    let invalid : Result := ⟨realIndefinite, Exc.invalid, false⟩
    let r := yl2xResult c x y
    (signOf x = true → isZero x = false → r = invalid) ∧
      (isZero x = true → isZero y = true → r = invalid) ∧
      (isZero x = true → isZero y = false → r = ⟨infinityOf (!sy), { ze := isFinite y }, false⟩) ∧
      (x = infinityOf false → isZero y = true → r = invalid) ∧
      (x = infinityOf false → isZero y = false → r = ⟨infinityOf sy, de, false⟩) ∧
      (Holds x 1 → isInf y = true → r = invalid) ∧
      (Holds x 1 → isFinite y = true → r = ⟨zeroOf sy, de, false⟩) ∧
      ∀ rx : ℝ, Holds x rx →
        (0 < rx → rx < 1 → (isInf y = true → r = ⟨infinityOf (!sy), de, false⟩) ∧
          (isZero y = true → r = ⟨zeroOf (!sy), de, false⟩)) ∧
        (1 < rx → (isInf y = true → r = ⟨infinityOf sy, de, false⟩) ∧ (isZero y = true → r = ⟨zeroOf sy, de, false⟩)) := by
  intro sy de invalid r
  refine ⟨fun hs hz => yl2xResult_invalid hx hy (yl2xF_negative hs hz),
    fun hz hzy => yl2xResult_invalid hx hy ((yl2xF_zero hz).trans (if_pos hzy)), yl2xResult_zero hx hy, ?_, ?_,
    fun h => (yl2xResult_one hx hy h).1, fun h => (yl2xResult_one hx hy h).2, fun rx h => ⟨fun h0 h1 => ?_, fun h1 => ?_⟩⟩
  · rintro rfl hzy
    exact yl2xResult_invalid hx hy (yl2xF_infinity.trans (if_pos hzy))
  · rintro rfl hzy
    rw [infinityOf_eq]
    exact yl2xResult_exact hx hy (yl2xF_infinity.trans (if_neg (hzy ▸ nofun)))
  · rw [← Bool.bne_true sy]
    exact yl2xResult_positive hx hy h h0 h1.ne (iff_of_true rfl h1)
  · rw [← Bool.bne_false sy]
    exact yl2xResult_positive hx hy h (one_pos.trans h1) h1.ne' (iff_of_false nofun h1.not_gt)

end Numbers

/-! ## FYL2XP1 (R309) -/

theorem yl2xp1F_zero (hz : isZero x = true) :
    yl2xp1F d c x y = if isInf y then Result.invalid else Result.exact (zeroF80 (signOf x != signOf y)) := if_pos hz

theorem yl2xp1F_infinity (hi : isInf x = true) : yl2xp1F d c x y = d.result := by
  obtain ⟨-, hz, -⟩ := class_of_isInf hi
  rw [yl2xp1F, hz, hi]
  rfl

/-- A nonzero finite x. -/
theorem yl2xp1F_nonzero (h : Holds x rx) (hr : rx ≠ 0) :
    yl2xp1F d c x y =
      if !inLog2p1Range (valOf x) then d.result
      else if isZero y then Result.exact (zeroF80 (signOf x != signOf y))
      else if isInf y then Result.exact (infF80 (signOf x != signOf y))
      else transResult .log2p1 c (valOf x) (valOf y) (timesVal (valOf y) (log2p1Of (valOf x))) := by
  obtain ⟨-, -, hi, -⟩ := not_special_of_finite h.1
  rw [yl2xp1F, isZero_of_ne_zero h hr, hi]
  rfl

section Numbers
variable (hx : isFinite x || isInf x) (hy : isFinite y || isInf y)
include hx hy

theorem yl2xp1Result_exact {v : F80} (h : yl2xp1F d c x y = Result.exact v) :
    yl2xp1Result d c x y = ⟨v, { de := isDenormal x || isDenormal y }, false⟩ :=
  twoOperandResult_exact hx hy h

/-- A draw, with DE. -/
theorem yl2xp1Result_drawn (h : yl2xp1F d c x y = d.result) :
    yl2xp1Result d c x y = ⟨d.v, { pe := d.pe, de := isDenormal x || isDenormal y }, d.c1⟩ := by
  rw [yl2xp1Result, twoOperandResult_number hx hy, h, if_neg nofun]
  simp [Draw.result, Result.withDE, Exc.union, Exc.denormalIf]

theorem yl2xp1Result_in_range (h : Holds x rx) (hr : rx ≠ 0) (hin : |rx| < 1 - √2 / 2) :
    let neg := signOf x != signOf y
    let de : Exc := { de := isDenormal x || isDenormal y }
    (isZero y = true → yl2xp1Result d c x y = ⟨zeroOf neg, de, false⟩) ∧
      (isInf y = true → yl2xp1Result d c x y = ⟨infinityOf neg, de, false⟩) := by
  have hrest := yl2xp1F_nonzero (d := d) (c := c) (y := y) h hr
  rw [(inLog2p1Range_iff h.2 hr).mpr hin, Bool.not_true, if_neg nofun, ← infinityOf_eq, ← zeroOf_eq] at hrest
  refine ⟨fun hz => yl2xp1Result_exact hx hy (hrest.trans (if_pos hz)), fun hi => yl2xp1Result_exact hx hy (hrest.trans ?_)⟩
  obtain ⟨-, hz, -⟩ := class_of_isInf hi
  rw [if_neg (hz ▸ nofun), if_pos hi]

theorem yl2xp1Result_out_of_range (h : Holds x rx) (hr : rx ≠ 0) (hout : 1 - √2 / 2 ≤ |rx|) :
    yl2xp1Result d c x y = ⟨d.v, { pe := d.pe, de := isDenormal x || isDenormal y }, d.c1⟩ := by
  refine yl2xp1Result_drawn hx hy ((yl2xp1F_nonzero h hr).trans (if_pos ?_))
  rw [Bool.not_eq_true', ← Bool.not_eq_true, inLog2p1Range_iff h.2 hr]
  exact not_lt.mpr hout

/-- The table of R309. -/
theorem yl2xp1Result_special (d : Draw) (c : NumCtx) :
    let neg := signOf x != signOf y
    let de : Exc := { de := isDenormal x || isDenormal y }
    let r := yl2xp1Result d c x y
    let drawn : Result := ⟨d.v, { pe := d.pe, de := de.de }, d.c1⟩
    (isZero x = true → isInf y = true → r = ⟨realIndefinite, Exc.invalid, false⟩) ∧
      (isZero x = true → isFinite y = true → r = ⟨zeroOf neg, de, false⟩) ∧
      (isInf x = true → r = drawn) ∧
      ∀ rx : ℝ, Holds x rx → rx ≠ 0 →
        (|rx| < 1 - √2 / 2 → (isZero y = true → r = ⟨zeroOf neg, de, false⟩) ∧
          (isInf y = true → r = ⟨infinityOf neg, de, false⟩)) ∧
        (1 - √2 / 2 ≤ |rx| → r = drawn) := by
  intro neg de r drawn
  refine ⟨fun hz hi => ?_, fun hz hf => ?_, fun hi => yl2xp1Result_drawn hx hy (yl2xp1F_infinity hi),
    fun rx h hr => ⟨yl2xp1Result_in_range hx hy h hr, yl2xp1Result_out_of_range hx hy h hr⟩⟩
  · have hrest : yl2xp1F d c x y = Result.invalid := (yl2xp1F_zero hz).trans (if_pos hi)
    exact (twoOperandResult_class3 hx hy (hrest ▸ rfl)).trans hrest
  · obtain ⟨-, -, hi, -⟩ := not_special_of_finite hf
    rw [zeroOf_eq]
    exact yl2xp1Result_exact hx hy ((yl2xp1F_zero hz).trans (if_neg (hi ▸ nofun)))

end Numbers

end Sys2Proof.Machine
end

section
/-! SUPPORT. FPATAN (spec/43_transcendental.md R311): the multiples of π it delivers, and the table of its special operands. -/

namespace Sys2Proof.Machine

variable {c : NumCtx} {x y : F80}

/-! ## Rounding above half a unit (R158) -/

/-- Above half a unit the direction alone decides. -/
theorem roundsUp_above_half (rc : RC) (neg half odd : Bool) : roundsUp rc neg true true half odd = overflowsToInf rc neg := by
  cases rc <;> rfl

/-- A sticky magnitude of which more than half a unit is shifted out. -/
theorem roundAt_above_half (rc : RC) (neg : Bool) {x : Mag} {q sh : ℕ} (hs : x.sticky = true) (hq : x.m >>> sh = q)
    (hsh : 0 < sh) (hlog : sh ≤ Nat.log2 x.m + 2) (habove : 1 <<< (sh - 1) < x.m - q <<< sh) :
    roundAt rc neg x (x.e + sh) =
      ⟨if overflowsToInf rc neg then q + 1 else q, x.e + sh, true, overflowsToInf rc neg⟩ := by
  have hshift : (x.e + sh - x.e).toNat = sh := by omega
  unfold roundAt
  rw [if_neg (by omega), hshift]
  dsimp only
  rw [if_neg (by omega), hs, hq, decide_eq_true habove, Bool.or_true, Bool.true_or, roundsUp_above_half]

section AboveHalf
variable {k : RoundCtx} {rc : RC} {neg : Bool} {m : ℕ} {e : ℤ} {q sh : ℕ}

/-- It is delivered as one of its two neighbours, if they are normal numbers of 64 bits. -/
theorem deliverWith_above_half (hk : k.fmt = extFmt 64) (hq : m >>> sh = q) (hsh : 0 < sh) (hlog : Nat.log2 m = sh + 63)
    (habove : 1 <<< (sh - 1) < m - q <<< sh) (hlo : -16382 ≤ e + sh + 63) (hhi : e + sh + 64 ≤ 16383) :
    let up := overflowsToInf rc neg
    deliverWith k rc neg ⟨m, e, true⟩ = ⟨.finite (if up then q + 1 else q) (e + sh), { pe := true }, up⟩ := by
  intro up
  have hround : roundAt rc neg ⟨m, e, true⟩ (floorLog2 m e - (64 - 1)) = ⟨if up then q + 1 else q, e + sh, true, up⟩ := by
    rw [show floorLog2 m e - (64 - 1) = e + sh by unfold floorLog2; omega]
    exact roundAt_above_half rc neg rfl hq hsh (by dsimp only; omega) habove
  have hy : roundTo (extFmt 64) rc neg ⟨m, e, true⟩ = ⟨if up then q + 1 else q, e + sh, true, up⟩ := by
    refine Eq.trans (congrArg (roundAt rc neg _) (max_eq_left ?_)) hround
    unfold floorLog2 extFmt
    dsimp only
    omega
  have hq63 : 2 ^ 63 ≤ q ∧ q < 2 ^ 64 := by
    have hm : m ≠ 0 := by
      rintro rfl
      simp at hlog
    rw [← hq, Nat.shiftRight_eq_div_pow, Nat.le_div_iff_mul_le (by positivity), Nat.div_lt_iff_lt_mul (by positivity),
      ← pow_add, ← pow_add, ← Nat.le_log2 hm, ← Nat.log2_lt hm]
    omega
  have hlogq : 63 ≤ Nat.log2 (if up then q + 1 else q) ∧ Nat.log2 (if up then q + 1 else q) ≤ 64 := by
    split_ifs <;> exact ⟨log2_ge_of_le (by omega), log2_le_of_lt (by omega)⟩
  refine deliverWith_normal (hk ▸ hy) ?_ ?_ <;> rw [hk]
  · simp only [floorLog2, extFmt]
    omega
  · unfold isTiny
    cases k.tininess with
    | beforeRounding => exact decide_eq_false (by simp only [floorLog2, extFmt]; omega)
    | afterRounding =>
      dsimp only
      rw [show roundUnbounded (extFmt 64) rc neg ⟨m, e, true⟩ = _ from hround]
      exact decide_eq_false (by simp only [floorLog2, extFmt]; omega)

theorem roundReg_above_half (hp : c.p = 64) (hq : m >>> sh = q) (hsh : 0 < sh) (hlog : Nat.log2 m = sh + 63)
    (habove : 1 <<< (sh - 1) < m - q <<< sh) (hlo : -16382 ≤ e + sh + 63) (hhi : e + sh + 64 ≤ 16383) :
    let up := overflowsToInf (rcOf c.cw) neg
    roundReg c neg ⟨m, e, true⟩ = ⟨pack neg (if up then q + 1 else q) (e + sh), { pe := true }, up⟩ := by
  rw [roundReg, deliver,
    deliverWith_above_half (k := c.round) (congrArg extFmt hp) hq hsh hlog habove hlo hhi]
  rfl

end AboveHalf

/-! ## The multiples of π -/

/-- The multiples `k * π / 4` of R311, truncated to 64 bits. -/
def piPatterns : List (ℕ × F80) :=
  [(1, 0x3FFEC90FDAA22168C234), (2, 0x3FFFC90FDAA22168C234), (3, 0x400096CBE3F9990E91A7), (4, 0x4000C90FDAA22168C234)]

/-- The digits of a multiple of π: q are those of the truncated pattern, and the next one is 1. -/
theorem quarterPi_digits {k : ℕ} {down : F80} (hk : (k, down) ∈ piPatterns) :
    ∃ q sh : ℕ, (quarterPi k).m >>> sh = q ∧ 0 < sh ∧ Nat.log2 (quarterPi k).m = sh + 63 ∧
      1 <<< (sh - 1) < (quarterPi k).m - q <<< sh ∧ sh ≤ 580 ∧
      ∀ neg up : Bool, pack neg (if up then q + 1 else q) (-642 + sh) = zeroOf neg ||| (down + if up then 1 else 0) := by
  simp only [piPatterns, List.mem_cons, List.not_mem_nil, or_false, Prod.mk.injEq] at hk
  rcases hk with ⟨rfl, rfl⟩ | ⟨rfl, rfl⟩ | ⟨rfl, rfl⟩ | ⟨rfl, rfl⟩
  · exact ⟨0xC90FDAA22168C234, 578, by decide +kernel⟩
  · exact ⟨0xC90FDAA22168C234, 579, by decide +kernel⟩
  · exact ⟨0x96CBE3F9990E91A7, 580, by decide +kernel⟩
  · exact ⟨0xC90FDAA22168C234, 580, by decide +kernel⟩

theorem piRounded_eq (rc : RC) (neg : Bool) (down : F80) :
    piRounded rc neg down =
      ⟨zeroOf neg ||| (down + if overflowsToInf rc neg then 1 else 0), { pe := true }, overflowsToInf rc neg⟩ := by
  cases rc <;> rfl

theorem piMultiple_eq (hp : c.p = 64) {k : ℕ} {down : F80} (hk : (k, down) ∈ piPatterns) (neg : Bool) :
    piMultiple c neg k = piRounded (rcOf c.cw) neg down := by
  obtain ⟨q, sh, hq, hsh, hlog, habove, hle, hpack⟩ := quarterPi_digits hk
  rw [piRounded_eq, ← hpack]
  exact roundReg_above_half (e := -642) hp hq hsh hlog habove (by omega) (by omega)

/-! ## The cases of FPATAN -/

theorem patanF_zero (hz : isZero y = true) :
    patanF c x y = if signOf x then piMultiple c (signOf y) 4 else Result.exact y := if_pos hz

theorem patanF_infinity (hi : isInf y = true) :
    patanF c x y =
      if isInf x then piMultiple c (signOf y) (if signOf x then 3 else 1) else piMultiple c (signOf y) 2 := by
  obtain ⟨-, hz, -⟩ := class_of_isInf hi
  rw [patanF, hz, hi]
  rfl

theorem patanF_nonzero (hf : isFinite y = true) (hz : isZero y = false) :
    patanF c x y =
      if isInf x then (if signOf x then piMultiple c (signOf y) 4 else Result.exact (zeroF80 (signOf y)))
      else if isZero x then piMultiple c (signOf y) 2
      else (transResult .atan2 c (valOf y) (valOf x) (atan2Of (valOf y) (valOf x))).withDE (isDenormal x || isDenormal y) := by
  obtain ⟨-, -, hi, -⟩ := not_special_of_finite hf
  rw [patanF, hz, hi]
  rfl

/-- A finite y and an infinite x. -/
theorem patanF_infinite_x (hf : isFinite y = true) (neg : Bool) :
    patanF c (infinityOf neg) y =
      if neg then piMultiple c (signOf y) 4 else Result.exact (zeroOf (signOf y)) := by
  obtain ⟨-, -, hix, -, -, hsx⟩ := class_infinityOf neg
  cases hz : isZero y
  · rw [patanF_nonzero hf hz, hix, hsx, if_pos rfl, zeroOf_eq]
  · rw [patanF_zero hz, hsx, ← eq_zeroOf hz]

/-- An infinite y and an infinite x. -/
theorem patanF_infinities (hi : isInf y = true) (neg : Bool) :
    patanF c (infinityOf neg) y = piMultiple c (signOf y) (if neg then 3 else 1) := by
  obtain ⟨-, -, hix, -, -, hsx⟩ := class_infinityOf neg
  rw [patanF_infinity hi, hix, hsx, if_pos rfl]

theorem patanResult_number (hx : isFinite x || isInf x) (hy : isFinite y || isInf y) : patanResult c x y = patanF c x y := by
  obtain ⟨hux, hnx⟩ := not_special_of_number hx
  obtain ⟨huy, hny⟩ := not_special_of_number hy
  rw [patanResult, hux, huy, hnx, hny]
  rfl

/-- The table of R311. -/
theorem patanResult_special (hx : isFinite x || isInf x) (hy : isFinite y || isInf y) (hp : c.p = 64) :
    let r := patanResult c x y
    let sy := signOf y
    let multiple := piRounded (rcOf c.cw) sy
    (isZero y = true → signOf x = false → r = ⟨y, Exc.clear, false⟩) ∧
      (isZero y = true → signOf x = true → r = multiple 0x4000C90FDAA22168C234) ∧
      (isFinite y = true → isZero y = false → isZero x = true → r = multiple 0x3FFFC90FDAA22168C234) ∧
      (isFinite y = true → x = infinityOf false → r = ⟨zeroOf sy, Exc.clear, false⟩) ∧
      (isFinite y = true → x = infinityOf true → r = multiple 0x4000C90FDAA22168C234) ∧
      (isInf y = true → x = infinityOf false → r = multiple 0x3FFEC90FDAA22168C234) ∧
      (isInf y = true → x = infinityOf true → r = multiple 0x400096CBE3F9990E91A7) ∧
      (isInf y = true → isFinite x = true → r = multiple 0x3FFFC90FDAA22168C234) := by
  intro r sy multiple
  have hpi : ∀ p ∈ piPatterns, piMultiple c sy p.1 = multiple p.2 := fun _ hk => piMultiple_eq hp hk sy
  simp only [piPatterns, List.forall_mem_cons] at hpi
  obtain ⟨h1, h2, h3, h4, -⟩ := hpi
  rw [show r = _ from patanResult_number hx hy, ← h1, ← h2, ← h3, ← h4]
  refine ⟨fun hz hs => ?_, fun hz hs => ?_, fun hf hz hzx => ?_, ?_, ?_, ?_, ?_, fun hi hf => ?_⟩
  · exact (patanF_zero hz).trans (if_neg (hs ▸ nofun))
  · exact (patanF_zero hz).trans (if_pos hs)
  · obtain ⟨-, -, hix⟩ := not_special_of_isZero hzx
    rw [patanF_nonzero hf hz, hix, if_neg nofun, if_pos hzx]
  · rintro hf rfl
    exact patanF_infinite_x hf false
  · rintro hf rfl
    exact patanF_infinite_x hf true
  · rintro hi rfl
    exact patanF_infinities hi false
  · rintro hi rfl
    exact patanF_infinities hi true
  · obtain ⟨-, -, hix, -⟩ := not_special_of_finite hf
    rw [patanF_infinity hi, hix, if_neg nofun]

/-- Settles O36: the rule's COMMIT, the order of the special operands, and the three tables. -/
theorem twoOperandTranscendentals : Obligations.TwoOperandTranscendentals := by
  refine ⟨fun z hz s hs => ?_, fun c d x y => ⟨fun f hf => ?_, fun hx hy =>
    ⟨yl2xResult_special hx hy c, yl2xp1Result_special hx hy d c, patanResult_special hx hy⟩⟩⟩
  · obtain ⟨hw, hk, f, hr, hf⟩ := ruleOf_twoOperandForms hz
    have h := exec_ready hw (hk ▸ hs)
    rw [hr] at h
    exact replacePopRule_completes h (hf s)
  · simp only [List.mem_cons, List.not_mem_nil, or_false] at hf
    rcases hf with rfl | rfl | rfl
    · exact two_special_operands (f := yl2xResult c) (fun _ _ => rfl) c x y
    · exact two_special_operands (f := yl2xp1Result d c) (fun _ _ => rfl) c x y
    · exact two_special_operands (f := patanResult c) (fun _ _ => rfl) c x y

end Sys2Proof.Machine
end

section
/-! SUPPORT. The compares (spec/44_compare.md R320 to R335, R337 to R341): each is one COMMIT of a relation and its exceptions,
to SW or to EFLAGS; and FXAM (R336), which writes the condition codes alone. -/

namespace Sys2Proof.Machine

variable {i : Instr} {s u : State} {m : MemOp} {k : BitVec 3} {n : Nat}

/-! ## The COMMIT of a compare -/

/-- What a compare of relation and exceptions `r`, with n pops, hands to COMMIT. -/
def compareCommit (target : Target) (cw : Word16) (r : Rel × Exc) (n : Nat) : Commit :=
  { exc := r.2, codes := compareCodes target cw r.1 r.2, ops := List.replicate n .pop
    eflags := if target = .eflags then some r.1 else none }

/-- The state that COMMIT of a compare leaves. -/
def State.compared (u : State) (target : Target) (r : Rel × Exc) (n : Nat) : State :=
  (compareCommit target u.cw r n).finish ((compareCommit target u.cw r n).suppress u.cw) u

theorem compareRule_eq (empty ordered : Bool) (b : Operand) (target : Target) (n : Nat) (u : State) :
    compareRule empty ordered b target (List.replicate n .pop) u =
      u.compared target (if empty then (.unordered, Exc.stackFault) else compareResult ordered (.reg (u.st 0)) b) n :=
  commit_register _ _ rfl

theorem compared_suppress_undisturbed {target : Target} {r : Rel × Exc} (hu : Undisturbed u r.2) :
    (compareCommit target u.cw r n).suppress u.cw = .nothing :=
  suppress_undisturbed (c := compareCommit target u.cw r n) hu rfl

/-- A compare writes C1 = 0 whatever is suppressed, so the codes written are `compareCodes` (notes/assumptions/14.md). -/
theorem compareCommit_codesDone (target : Target) (cw : Word16) (r : Rel × Exc) (n : Nat) (sup : Suppress) :
    (compareCommit target cw r n).codesDone sup = compareCodes target cw r.1 r.2 := by
  have h1 : (compareCodes target cw r.1 r.2).c1 = some false := by
    unfold compareCodes
    cases target
    · dsimp only
      split <;> rfl
    · rfl
  unfold Commit.codesDone
  split
  · show { compareCodes target cw r.1 r.2 with c1 := some false } = compareCodes target cw r.1 r.2
    rw [← h1]
  · rfl

/-- A relation goes to C3, C2 and C0 unless an unmasked IE or DE suppresses it; C1 is 0 (R320). -/
theorem compared_codes_cc (u : State) (r : Rel × Exc) (n : Nat) :
    c1Of (u.compared .cc r n).sw = false ∧
      (Undisturbed u r.2 → c320 (u.compared .cc r n).sw = relBits r.1) ∧
      (¬Undisturbed u r.2 → c320 (u.compared .cc r n).sw = c320 u.sw) := by
  obtain ⟨h1, h320⟩ := finish_codes (compareCommit .cc u.cw r n) ((compareCommit .cc u.cw r n).suppress u.cw) u
  rw [compareCommit_codesDone] at h1 h320
  unfold State.compared
  rw [h1, h320]
  unfold Undisturbed compareCodes
  cases (r.2.unmasked u.cw).pre with
  | false => exact ⟨rfl, fun _ => by cases r.1 <;> rfl, fun hu => absurd rfl hu⟩
  | true => exact ⟨rfl, nofun, fun _ => rfl⟩

/-- A relation that goes to EFLAGS leaves C3, C2 and C0 unchanged; C1 is 0 (R330). -/
theorem compared_codes_eflags (u : State) (r : Rel × Exc) (n : Nat) :
    c1Of (u.compared .eflags r n).sw = false ∧ c320 (u.compared .eflags r n).sw = c320 u.sw := by
  obtain ⟨h1, h320⟩ := finish_codes (compareCommit .eflags u.cw r n) ((compareCommit .eflags u.cw r n).suppress u.cw) u
  rw [compareCommit_codesDone] at h1 h320
  exact ⟨h1, h320⟩

theorem compared_raised (u : State) (target : Target) (r : Rel × Exc) (n : Nat) : Raised u (u.compared target r n) r.2 :=
  finish_raised (compareCommit target u.cw r n) _ u

/-- Undisturbed, a compare pops. -/
theorem compared_popped {target : Target} {r : Rel × Exc} (hn : n ≤ 2) (hu : Undisturbed u r.2) :
    Popped n u (u.compared target r n) := by
  have hops : List.replicate n StackOp.pop = [] ∨ List.replicate n StackOp.pop = [.pop] ∨
      List.replicate n StackOp.pop = [.pop, .pop] := by
    interval_cases n
    · exact .inl rfl
    · exact .inr (.inl rfl)
    · exact .inr (.inr rfl)
  have hpop := popped_stackOps (sameStack_raised u (compareCommit target u.cw r n)) _ hops
  rw [List.length_replicate] at hpop
  unfold State.compared
  rw [compared_suppress_undisturbed hu]
  exact hpop.congr (sameStack_finish rfl)

/-- Disturbed, it does not. -/
theorem compared_kept {target : Target} {r : Rel × Exc} (hu : ¬Undisturbed u r.2) :
    KeptStack u (u.compared target r n) :=
  finish_disturbed (c := compareCommit target u.cw r n) hu

/-! ## The compares to the condition codes (R320) -/

theorem comparesTo_compared (u : State) (r : Rel × Exc) (hn : n ≤ 2) : ComparesTo u (u.compared .cc r n) r n := by
  obtain ⟨h1, hwritten, hunchanged⟩ := compared_codes_cc u r n
  exact ⟨compared_raised u .cc r n, h1, fun hu => ⟨hwritten hu, compared_popped hn hu⟩,
    fun hu => ⟨hunchanged hu, compared_kept hu⟩⟩

/-- Each register compare is COMPARE with its right operand, and pops at most twice. -/
theorem ruleOf_compareForms {x : Instr × Bool × BitVec 3 × Nat} (hx : x ∈ compareForms k) :
    x.1 ≠ .wait ∧ kindOf x.1 = .waiting ∧ x.2.2.2 ≤ 2 ∧
      ruleOf x.1 = fun t => compareStRule x.2.1 x.2.2.1 .cc (List.replicate x.2.2.2 .pop) t.pointers := by
  simp only [compareForms, List.mem_cons, List.not_mem_nil, or_false] at hx
  rcases hx with rfl | rfl | rfl | rfl | rfl | rfl | rfl | rfl | rfl <;> exact ⟨nofun, rfl, by norm_num, rfl⟩

/-- Each memory compare is COMPARE with what memory holds, and pops at most once. -/
theorem ruleOf_memCompareForms {x : (MemOp → Instr) × Nat × (Nat → Operand) × Nat} (hx : x ∈ memCompareForms) (m : MemOp) :
    x.1 m ≠ .wait ∧ kindOf (x.1 m) = .waiting ∧ x.2.2.2 ≤ 2 ∧
      ruleOf (x.1 m) = withSource m x.2.1 fun img t =>
        compareRule (t.isEmpty 0) true (x.2.2.1 img) .cc (List.replicate x.2.2.2 .pop) t := by
  simp only [memCompareForms, List.mem_cons, List.not_mem_nil, or_false] at hx
  rcases hx with rfl | rfl | rfl | rfl | rfl | rfl | rfl | rfl <;> exact ⟨nofun, rfl, by norm_num, rfl⟩

/-- A compare with a register, or with the +0 of FTST, completes as R320 says. -/
theorem compareRule_completes {empty ordered : Bool} {b : Operand} (hn : n ≤ 2)
    (h : exec i s = .next (compareRule empty ordered b .cc (List.replicate n .pop) s.normal.pointers)) :
    ∃ t, exec i s = .next t ∧ OnlyStack s t ∧ PointersReg s t ∧
      ComparesTo s t
        (if empty then (.unordered, Exc.stackFault) else compareResult ordered (.reg (s.st 0)) b) n := by
  rw [compareRule_eq] at h
  exact ⟨_, h, (onlyStack_pointers s).finish rfl, pointersReg_finish s, comparesTo_compared s.normal.pointers _ hn⟩

/-- As `compareRule_completes`, after a read of memory. -/
theorem compareRule_completesMem {empty ordered : Bool} {b : Operand} (hn : n ≤ 2)
    (h : exec i s = .next (compareRule empty ordered b .cc (List.replicate n .pop) (s.normal.pointersMem m))) :
    ∃ t, exec i s = .next t ∧ OnlyStack s t ∧ PointersMem s t m ∧
      ComparesTo s t
        (if empty then (.unordered, Exc.stackFault) else compareResult ordered (.reg (s.st 0)) b) n := by
  rw [compareRule_eq] at h
  exact ⟨_, h, (onlyStack_pointersMem s m).finish rfl, pointersMem_finish s m,
    comparesTo_compared (s.normal.pointersMem m) _ hn⟩

/-- Settles O40: a register compare is COMPARE with ST(i), and FTST is COMPARE with +0. -/
theorem registerCompares : Obligations.RegisterCompares := by
  refine ⟨fun k x hx s hs => ?_, fun s hs => ?_⟩
  · obtain ⟨hw, hk, hn, hr⟩ := ruleOf_compareForms hx
    have h := exec_ready hw (hk ▸ hs)
    rw [hr] at h
    exact compareRule_completes hn h
  · have hzero : Operand.reg 0 = ⟨zeroF80 false, false⟩ := by decide
    rw [hzero]
    exact compareRule_completes (n := 0) (by decide) (exec_ready nofun hs)

/-- Settles O41: a memory compare is COMPARE with its operand, read before anything else. -/
theorem memoryCompares : Obligations.MemoryCompares := by
  intro x hx s m hs hm
  obtain ⟨hw, hk, hn, hr⟩ := ruleOf_memCompareForms hx m
  have h := exec_ready hw (hk ▸ hs)
  rw [hr, withSource_readable hm] at h
  exact compareRule_completesMem hn h

/-! ## The compares to EFLAGS (R330) -/

theorem ruleOf_eflagsCompareForms {x : Instr × Bool × Nat} (hx : x ∈ eflagsCompareForms k) :
    x.1 ≠ .wait ∧ kindOf x.1 = .waiting ∧ (∀ c : Params, available c x.1 = c.p6Ext) ∧ x.2.2 ≤ 2 ∧
      ruleOf x.1 = fun t => compareStRule x.2.1 k .eflags (List.replicate x.2.2 .pop) t.pointers := by
  simp only [eflagsCompareForms, List.mem_cons, List.not_mem_nil, or_false] at hx
  rcases hx with rfl | rfl | rfl | rfl <;> exact ⟨nofun, rfl, fun _ => rfl, by norm_num, rfl⟩

theorem OnlyStack.withEflags {t : State} (h : OnlyStack s t) (f : Word32) : OnlyStackAndEflags s { t with eflags := f } := by
  unfold OnlyStack at h
  exact congrArg (fun w : State => { w with eflags := f }) h

/-- COMMIT with a relation for EFLAGS is COMMIT without one, but in EFLAGS. -/
theorem finish_eq_withEflags (c : Commit) (sup : Suppress) (u : State) :
    c.finish sup u = { ({ c with eflags := none } : Commit).finish sup u with eflags := (c.finish sup u).eflags } := rfl

theorem onlyStackAndEflags_compared (s : State) (r : Rel × Exc) (n : Nat) :
    OnlyStackAndEflags s (s.normal.pointers.compared .eflags r n) := by
  unfold State.compared
  rw [finish_eq_withEflags]
  exact ((onlyStack_pointers s).finish rfl).withEflags _

theorem compared_eflags_undisturbed {r : Rel × Exc} (hu : Undisturbed u r.2) :
    (u.compared .eflags r n).eflags = relEflags u.eflags r.1 := by
  unfold State.compared
  rw [compared_suppress_undisturbed hu]
  exact finish_eflags ..

theorem compared_eflags_disturbed {target : Target} {r : Rel × Exc} (hu : ¬Undisturbed u r.2) :
    (u.compared target r n).eflags = u.eflags := by
  unfold State.compared
  rw [suppress_disturbed (c := compareCommit target u.cw r n) hu]
  exact finish_eflags ..

/-- ZF, PF and CF hold the relation, and OF, SF and AF are clear. -/
theorem relEflags_written (f : Word32) (r : Rel) :
    ((relEflags f r).getLsbD 6, (relEflags f r).getLsbD 2, (relEflags f r).getLsbD 0) = relBits r ∧
      (relEflags f r).getLsbD 11 = false ∧ (relEflags f r).getLsbD 7 = false ∧ (relEflags f r).getLsbD 4 = false := by
  refine ⟨?_, relEflags_bits f r 11 (by decide), relEflags_bits f r 7 (by decide), relEflags_bits f r 4 (by decide)⟩
  rw [relEflags_bits f r 6 (by decide), relEflags_bits f r 2 (by decide), relEflags_bits f r 0 (by decide)]
  cases r <;> rfl

/-- Settles O42: one COMMIT, which writes the relation to EFLAGS and pops, or is suppressed. -/
theorem eflagsCompares : Obligations.EflagsCompares := by
  intro k x hx
  obtain ⟨hw, hk, hav, hn, hr⟩ := ruleOf_eflagsCompareForms hx
  refine ⟨hav, fun s hs => ?_⟩
  intro r
  have h := exec_ready hw (hk ▸ hs)
  rw [hr] at h
  obtain ⟨h1, h320⟩ := compared_codes_eflags s.normal.pointers r x.2.2
  refine ⟨s.normal.pointers.compared .eflags r x.2.2, h.trans (congrArg _ (compareRule_eq ..)),
    onlyStackAndEflags_compared s r _, pointersReg_finish s, compared_raised s.normal.pointers .eflags r _, h1, h320,
    fun hu => ?_, fun hu => ⟨compared_kept (u := s.normal.pointers) hu, compared_eflags_disturbed (u := s.normal.pointers) hu⟩⟩
  obtain ⟨hrel, hof, hsf, haf⟩ := relEflags_written s.eflags r.1
  rw [show (s.normal.pointers.compared .eflags r x.2.2).eflags = relEflags s.eflags r.1 from
    compared_eflags_undisturbed (u := s.normal.pointers) hu]
  exact ⟨compared_popped (u := s.normal.pointers) hn hu, hrel, hof, hsf, haf, relEflags_kept s.eflags r.1⟩

/-! ## FXAM (R336) -/

theorem classCodes_eq (empty : Bool) (v : F80) :
    classCodes empty v =
      { c3 := some (examineCode empty v).1, c2 := some (examineCode empty v).2.1, c0 := some (examineCode empty v).2.2 } := by
  unfold classCodes examineCode isUnsupported isNan isInf isZero isDenormal
  cases empty <;> cases classOf v <;> rfl

/-- Settles O43: FXAM's rule writes the four condition codes and nothing else. -/
theorem examine : Obligations.Examine := by
  refine ⟨rfl, fun s hs => ⟨examineRule s.normal.pointers, exec_ready nofun hs, rfl, rfl, ⟨rfl, rfl, rfl, rfl, rfl⟩,
    ⟨rfl, rfl, topOf_writeCodes _ _⟩, ?_, ?_, writeCodes_mask _ _ _ rfl⟩⟩
  · rw [← phys_zero]
    exact getLsbD_writeCodes _ _ 9
  · unfold c320 examineRule
    simp only [getLsbD_writeCodes, classCodes_eq]
    rfl

end Sys2Proof.Machine
end

section
/-! SUPPORT. What a compare answers (spec/44_compare.md R320): the order of two exact values against the reals, the infinities, and
the operands that are UNORDERED. -/

namespace Sys2Proof.Machine

variable {a b : Operand} {x y : F80}

/-! ## Exact values -/

theorem compareVal_iff (a b : Val) :
    (compareVal a b = .gt ↔ scaledInt b (min a.e b.e) < scaledInt a (min a.e b.e)) ∧
      (compareVal a b = .lt ↔ scaledInt a (min a.e b.e) < scaledInt b (min a.e b.e)) ∧
      (compareVal a b = .eq ↔ scaledInt a (min a.e b.e) = scaledInt b (min a.e b.e)) := by
  unfold compareVal
  dsimp only
  split_ifs
  all_goals
    simp only [true_iff, false_iff]
    omega

/-- Both values are whole multiples of the finer of their units, and these compare as the values do. -/
theorem compareVal_spec {a b : Val} {ra rb : ℝ} (ha : a.Is ra) (hb : b.Is rb) :
    (compareVal a b = .gt ↔ rb < ra) ∧ (compareVal a b = .lt ↔ ra < rb) ∧ (compareVal a b = .eq ↔ ra = rb) := by
  have hunit : (0 : ℝ) < 2 ^ min a.e b.e := by positivity
  rw [← ha.scaledInt (min_le_left _ b.e), ← hb.scaledInt (min_le_right a.e _), mul_lt_mul_iff_of_pos_right hunit,
    mul_lt_mul_iff_of_pos_right hunit, mul_left_inj' hunit.ne', Int.cast_lt, Int.cast_lt, Int.cast_inj]
  exact compareVal_iff a b

/-! ## Numbers -/

theorem compareF_infinities (hx : isInf x = true) (hy : isInf y = true) :
    compareF x y = if signOf x = signOf y then .eq else if signOf x then .lt else .gt := by
  simp only [compareF, hx, hy, if_true, Bool.true_and, beq_iff_eq]

theorem compareF_infinite_left (hx : isInf x = true) (hy : isFinite y = true) :
    compareF x y = if signOf x then .lt else .gt := by
  obtain ⟨-, -, hi, -⟩ := not_special_of_finite hy
  rw [compareF, if_pos hx, hi]
  rfl

theorem compareF_infinite_right (hx : isFinite x = true) (hy : isInf y = true) :
    compareF x y = if signOf y then .gt else .lt := by
  obtain ⟨-, -, hi, -⟩ := not_special_of_finite hx
  rw [compareF, hi, if_neg nofun, if_pos hy]

theorem compareF_finite (hx : isFinite x = true) (hy : isFinite y = true) : compareF x y = compareVal (valOf x) (valOf y) := by
  obtain ⟨-, -, hix, -⟩ := not_special_of_finite hx
  obtain ⟨-, -, hiy, -⟩ := not_special_of_finite hy
  rw [compareF, hix, hiy]
  rfl

/-! ## Operands (R167, R168) -/

theorem compareResult_special (ordered : Bool) (h : isUnsupported a.v || isUnsupported b.v || isSnan a.v || isSnan b.v) :
    compareResult ordered a b = (.unordered, Exc.invalid) := by
  rw [Bool.or_assoc] at h
  unfold compareResult
  split
  · rfl
  · rw [if_pos ((Bool.or_eq_true_iff.mp h).resolve_left ‹_›)]

theorem compareResult_qnan (ordered : Bool)
    (hs : (isUnsupported a.v || isUnsupported b.v || isSnan a.v || isSnan b.v) = false) (hn : isNan a.v || isNan b.v) :
    compareResult ordered a b = (.unordered, { ie := ordered }) := by
  rw [Bool.or_assoc, Bool.or_eq_false_iff] at hs
  obtain ⟨hu, hsnan⟩ := hs
  rw [compareResult, hu, hsnan, if_neg nofun, if_neg nofun, if_pos hn]

theorem isSnan_eq_false_of_not_isNan (h : isNan x = false) : isSnan x = false := by
  rw [← Bool.not_eq_true, isSnan_iff, h]
  nofun

theorem compareResult_number (ordered : Bool) (ha : isFinite a.v || isInf a.v) (hb : isFinite b.v || isInf b.v) :
    compareResult ordered a b = (compareF a.v b.v, { de := a.denormal || b.denormal }) := by
  obtain ⟨hua, hna⟩ := not_special_of_number ha
  obtain ⟨hub, hnb⟩ := not_special_of_number hb
  rw [compareResult, hua, hub, hna, hnb, isSnan_eq_false_of_not_isNan hna, isSnan_eq_false_of_not_isNan hnb]
  rfl

/-- Settles O59: the classes in their order, then the infinities, then the order of the exact values. -/
theorem exactCompare : Obligations.ExactCompare := by
  refine ⟨fun ordered a b => ?_, fun _ _ _ _ => compareVal_spec⟩
  intro r special
  have number {v : F80} (h : isFinite v = true ∨ isInf v = true) : (isFinite v || isInf v) = true := Bool.or_eq_true_iff.mpr h
  have hrel (ha : isFinite a.v = true ∨ isInf a.v = true) (hb : isFinite b.v = true ∨ isInf b.v = true) :
      r.1 = compareF a.v b.v := congrArg Prod.fst (compareResult_number ordered (number ha) (number hb))
  refine ⟨compareResult_special ordered, compareResult_qnan ordered,
    fun ha hb => congrArg Prod.snd (compareResult_number ordered ha hb), fun ha hb => ?_, fun ha hb => ?_, fun ha hb => ?_,
    fun ra rb ha hb => ?_⟩
  · exact (hrel (.inr ha) (.inr hb)).trans (compareF_infinities ha hb)
  · exact (hrel (.inr ha) (.inl hb)).trans (compareF_infinite_left ha hb)
  · exact (hrel (.inl ha) (.inr hb)).trans (compareF_infinite_right ha hb)
  · rw [hrel (.inl ha.1) (.inl hb.1), compareF_finite ha.1 hb.1]
    exact compareVal_spec ha.2 hb.2

end Sys2Proof.Machine
end

section
/-! SUPPORT. Stack management (spec/45_stack.md R350 to R355): FXCH is one COMMIT of two register writes; the other rules change
TOP, tags and condition codes, and nothing else of the stack or of SW. -/

namespace Sys2Proof.Machine

variable {i : Instr} {s t u w : State} {k : BitVec 3} {v x : F80}

/-- The bytes of a register form, the second as that of i = 0 plus i (R124). -/
theorem encode_of_reg (esc reg : BitVec 3) (h : opcodeOf i = .reg esc reg k) :
    encode i = [escapeByte esc, packByte 3 reg 0 + k.setWidth 8] := by
  rw [← packByte_eq_add, encode, h]
  rfl

/-! ## FXCH (R350) -/

/-- A write of v to ST(0), then one of x to ST(k), which prevails where they are one register (R36). -/
def WroteBoth (s t : State) (k : BitVec 3) (v x : F80) : Prop :=
  t.top = s.top ∧
    ∀ j : BitVec 3,
      t.reg j = (if j = s.phys k then x else if j = s.top then v else s.reg j) ∧
        t.tag j = if j = s.phys k then tagOf x else if j = s.top then tagOf v else s.tag j

theorem WroteBoth.congr (h : WroteBoth s t k v x) (e : SameStack w t) : WroteBoth s w k v x := by
  obtain ⟨hreg, htag, htop⟩ := e
  exact ⟨htop.trans h.1, fun j => ⟨(hreg j).trans (h.2 j).1, (htag j).trans (h.2 j).2⟩⟩

theorem wroteBoth_stackOps (h : SameStack w u) (k : BitVec 3) (v x : F80) :
    WroteBoth u (w.stackOps [.write 0 v, .write k x]) k v x := by
  obtain ⟨hreg, htag, htop⟩ := h
  have hphys : (w.writeSt 0 v).phys k = u.phys k := phys_of_top htop k
  refine ⟨htop, fun j => ⟨?_, ?_⟩⟩
  · show ((w.writeSt 0 v).writeSt k x).reg j = _
    rw [reg_writeSt, reg_writeSt, hphys, phys_zero, htop, hreg]
  · show ((w.writeSt 0 v).writeSt k x).tag j = _
    rw [tag_writeSt, tag_writeSt, hphys, phys_zero, htop, htag]

/-- FXCH writes to each of its two registers what the other counts as. -/
theorem exchangeRule_completes (h : exec i s = .next (exchangeRule k s.normal.pointers)) :
    Completes i s (if s.isEmpty 0 || s.isEmpty k then Exc.stackFault else Exc.clear, false) fun t =>
      WroteBoth s t k (filledSt s k) (filledSt s 0) := by
  have hempty (j : BitVec 3) : s.normal.pointers.isEmpty j = s.isEmpty j := rfl
  have hfilled (j : BitVec 3) : filledSt s.normal.pointers j = filledSt s j := rfl
  unfold exchangeRule at h
  rw [hempty, hempty, hfilled, hfilled] at h
  -- `(… :)` elaborates the term before the goal, whose registers the unifier would evaluate.
  exact (completes_of_commit h rfl rfl rfl rfl fun _ ht => (wroteBoth_stackOps (sameStack_rule s _) k _ _).congr ht :)

/-- Settles O44: FXCH and its aliases are one COMMIT, which writes both registers. -/
theorem exchange : Obligations.Exchange := by
  intro k
  refine ⟨encode_of_reg 1 1 rfl, encode_of_reg 5 1 rfl, encode_of_reg 7 1 rfl, fun c => ⟨rfl, rfl⟩, fun y hy s hs => ?_⟩
  have hrule : y ≠ .wait ∧ kindOf y = .waiting ∧ ruleOf y = fun t => exchangeRule k t.pointers := by
    simp only [List.mem_cons, List.not_mem_nil, or_false] at hy
    rcases hy with rfl | rfl | rfl <;> exact ⟨nofun, rfl, rfl⟩
  obtain ⟨hw, hk, hr⟩ := hrule
  have h := exec_ready hw (hk ▸ hs)
  rw [hr] at h
  exact exchangeRule_completes h

/-! ## FINCSTP, FDECSTP, FFREE, FFREEP and FNOP (R351 to R355) -/

/-- TOP is bits 13:11 of SW: the flags, ES and B are others. -/
theorem setTop_flags (sw : Word16) (d : BitVec 3) : setTop sw d &&& 0x80FF = sw &&& 0x80FF := by
  refine sw_mask_of _ fun j _ hm => getLsbD_setTop sw d ?_
  by_contra hj
  obtain rfl | rfl | rfl : j = 11 ∨ j = 12 ∨ j = 13 := by omega
  all_goals cases hm

/-- The rules of R351 to R355 write SW by setting TOP, if at all, and then condition codes. -/
theorem writeCodes_setTop_flags (sw : Word16) (d : BitVec 3) (c : Codes) :
    writeCodes (setTop sw d) c &&& 0x80FF = sw &&& 0x80FF :=
  (writeCodes_mask _ _ _ rfl).trans (setTop_flags sw d)

/-- FINCSTP and FDECSTP move TOP and clear C1; the registers keep their tags (R351, R352). -/
theorem moveTopRule_leaves (s : State) (d : BitVec 3) :
    let t := moveTopRule d s.normal.pointers
    OnlyStack s t ∧ PointersReg s t ∧ t.top = s.top + d ∧ t.regs = s.regs ∧ t.tags = s.tags ∧ c1Of t.sw = false ∧
      t.sw &&& 0x80FF = s.sw &&& 0x80FF :=
  ⟨rfl, ⟨rfl, rfl, rfl, rfl, rfl⟩, (topOf_writeCodes _ _).trans (topOf_setTop _ _), rfl, rfl, getLsbD_writeCodes _ _ 9,
    writeCodes_setTop_flags _ _ _⟩

/-- FFREE changes the one tag (R353). -/
theorem freeRule_leaves (s : State) (k : BitVec 3) :
    let t := freeRule k s.normal.pointers
    OnlyStack s t ∧ PointersReg s t ∧ t.top = s.top ∧ t.regs = s.regs ∧
      (∀ j : BitVec 3, t.tag j = if j = s.phys k then .empty else s.tag j) ∧ t.sw &&& 0x80FF = s.sw &&& 0x80FF :=
  ⟨rfl, ⟨rfl, rfl, rfl, rfl, rfl⟩, topOf_writeCodes _ _, rfl, tag_freeReg s (s.phys k), writeCodes_mask _ _ _ rfl⟩

theorem tag_pop_free (s : State) (k j : BitVec 3) :
    (s.free k).pop.tag j = if j = s.phys k ∨ j = s.top then .empty else s.tag j := by
  rw [tag_pop, State.free, top_freeReg, tag_freeReg, ← ite_or]
  simp only [or_comm]

/-- FFREEP frees ST(k), then pops (R354). -/
theorem freePopRule_leaves (s : State) (k : BitVec 3) :
    let t := freePopRule k s.normal.pointers
    OnlyStack s t ∧ PointersReg s t ∧ t.top = s.top + 1 ∧ t.regs = s.regs ∧
      (∀ j : BitVec 3, t.tag j = if j = s.phys k ∨ j = s.top then .empty else s.tag j) ∧
      t.sw &&& 0x80FF = s.sw &&& 0x80FF :=
  ⟨rfl, ⟨rfl, rfl, rfl, rfl, rfl⟩, (topOf_writeCodes _ _).trans (topOf_setTop _ _), rfl, tag_pop_free s k,
    writeCodes_setTop_flags _ _ _⟩

/-- FNOP draws the condition codes, which R355 leaves undefined. -/
theorem drawCodes_leaves (s : State) :
    let t := s.normal.pointers.drawCodes
    OnlyStack s t ∧ PointersReg s t ∧ KeptStack s t ∧ t.sw &&& 0x80FF = s.sw &&& 0x80FF :=
  ⟨rfl, ⟨rfl, rfl, rfl, rfl, rfl⟩, ⟨rfl, rfl, topOf_writeCodes _ _⟩, writeCodes_mask _ _ _ rfl⟩

/-- Of D9 D0 to D9 D7 only the first is an instruction (R124, R355). -/
theorem regForm_fnop_none : ∀ k : BitVec 3, k ≠ 0 → regForm 1 2 k = none := by
  decide

/-- Settles O45: what the rule of each instruction leaves. -/
theorem stackManagement : Obligations.StackManagement := by
  refine ⟨rfl, rfl, rfl, fun k => ⟨encode_of_reg 5 0 rfl, encode_of_reg 7 0 rfl, fun _ => rfl, regForm_fnop_none k⟩, fun s hs =>
    ⟨fun y hy => ?_, fun k => ⟨_, exec_ready nofun hs, freeRule_leaves s k⟩,
      fun k => ⟨_, exec_ready nofun hs, freePopRule_leaves s k⟩, _, exec_ready nofun hs, drawCodes_leaves s⟩⟩
  simp only [List.mem_cons, List.not_mem_nil, or_false] at hy
  obtain rfl | rfl := hy
  · exact ⟨_, exec_ready nofun hs, moveTopRule_leaves s 1⟩
  · exact ⟨_, exec_ready nofun hs, moveTopRule_leaves s 7⟩

end Sys2Proof.Machine
end

section
/-! SUPPORT. WAIT, and the control instructions that move CW and SW, clear the exceptions or initialise
(spec/46_control.md R370 to R380, R400, R401). -/

namespace Sys2Proof.Machine

variable {s : State} {m : MemOp}

/-! ## WAIT (R400, R401) -/

/-- `REPORT` with CR0.NE set is the deferred request (R423). -/
theorem report_of_ne (h : s.cr0 &&& 0x20 ≠ 0) : s.report = { s with neReq := true, completion := .abnormal } :=
  if_pos h

/-- `REPORT` with CR0.NE clear is a call of `picint(13)` (R423). -/
theorem report_of_not_ne (h : s.cr0 &&& 0x20 = 0) :
    s.report = { s with irq13 := s.irq13 + 1, completion := .abnormal } :=
  if_neg (not_not.mpr h)

/-- WAIT with CR0.MP and CR0.TS set hands #NM over. -/
theorem exec_wait_notAvailable (h : s.cr0 &&& 0xA = 0xA) : exec .wait s = .next (s.raiseCpu .deviceNotAvailable) :=
  if_pos h

/-- WAIT reports a pending exception in software mode. -/
theorem exec_wait_pending (h : s.cr0 &&& 0xA ≠ 0xA) (hp : s.params.softfloat = true ∧ swES s.sw = true) :
    exec .wait s = .next s.report :=
  (if_neg h).trans (if_pos hp)

/-- WAIT else completes and charges its cycles. -/
theorem exec_wait_completes (h : s.cr0 &&& 0xA ≠ 0xA) (hp : ¬(s.params.softfloat = true ∧ swES s.sw = true)) :
    exec .wait s = .next (s.charge waitCycles).normal :=
  (if_neg h).trans (if_neg hp)

/-- Settles O18, row by row: #NM, the two reports, and the two completions. -/
theorem waitTable : Obligations.WaitTable := by
  refine fun s =>
    ⟨exec_wait_notAvailable, fun h hs he hne => ?_, fun h hs he hne => ?_, fun h _ he => ?_, fun h hs => ?_⟩
  · rw [exec_wait_pending h ⟨hs, he⟩, report_of_ne hne]
  · rw [exec_wait_pending h ⟨hs, he⟩, report_of_not_ne hne]
  · exact exec_wait_completes h (by simp [he])
  · exact exec_wait_completes h (by simp [hs])

/-! ## The condition codes drawn last, and ES and B recomputed (R370) -/

/-- A rule that ends in a draw of the condition codes changes no other bit of SW there. -/
theorem drawCodes_mask (s : State) {mask : Word16} (h : mask &&& 0x4700 = 0) : s.drawCodes.sw &&& mask = s.sw &&& mask :=
  writeCodes_mask _ _ mask h

theorem top_drawCodes (s : State) : s.drawCodes.top = s.top := topOf_writeCodes _ _

/-- SW after `RECOMPUTE_ES` and a draw: the flags and TOP stay, and ES and B summarise the flags that CW leaves unmasked. -/
theorem recomputed_drawn (s : State) (cw : Word16) :
    let t := { s with cw := cw, sw := recomputeES s.sw cw }.drawCodes
    t.sw &&& 0x387F = s.sw &&& 0x387F ∧ swES t.sw = unmaskedPending s.sw cw ∧ t.sw.getLsbD 15 = swES t.sw := by
  obtain ⟨hes, hb⟩ := (summarised_recomputeES s.sw cw).writeCodes (drawnAll s.drawn)
  refine ⟨?_, ?_, hb⟩
  · refine (drawCodes_mask _ (by decide)).trans (sw_mask_of _ fun j _ hm => ?_)
    rw [recomputeES, getLsbD_setES, if_neg]
    rintro (rfl | rfl) <;> cases hm
  · refine hes.trans ?_
    rw [unmaskedPending_writeCodes, recomputeES, unmaskedPending_setES]

/-! ## FNSTCW, FNSTSW and FLDCW (R371 to R373) -/

theorem storeWordRule_writable (value : State → Word16) (h : Writable s m 2) :
    storeWordRule value m s = { s with mem := writeLE s.mem (s.addr m) 2 (value s).toNat }.drawCodes := by
  rw [storeWordRule, memWrite_of_accessible h]

theorem storeWordRule_fault {f : MemFault} (value : State → Word16)
    (h : accessFault s.faultMap true (s.addr m) 2 = some f) : storeWordRule value m s = s.raiseCpu f.vector := by
  rw [storeWordRule, State.memWrite, h]

theorem loadCwRule_readable (h : Readable s m 2) :
    loadCwRule m s = (s.loadCw (BitVec.ofNat 16 (s.operand m 2))).drawCodes := by
  rw [loadCwRule, memRead_of_accessible h]
  rfl

/-- A word in memory reads back, and no other byte changes. -/
theorem storedAt_writeLE {t : State} {a : Word32} {n v : Nat} (hm : Memory.wf s.mem = true) (hn : n ≤ 2 ^ 32)
    (ht : t.mem = writeLE s.mem a n v) : StoredAt s t a n v := by
  rw [StoredAt, ht]
  exact ⟨readLE_writeLE_same n a v hn hm, fun k hk => readByte_writeLE_other n a v k hk hm⟩

/-- An instruction whose rule stores a word: what it leaves, and the fault it hands over. -/
theorem exec_storeWord {i : Instr} {value : State → Word16} (h : exec i s = .next (storeWordRule value m s.normal))
    (hv : value s.normal = value s) (hm : Memory.wf s.mem = true) :
    (Writable s m 2 →
      ∃ t, exec i s = .next t ∧ OnlyStatus { s with mem := t.mem } t ∧ StoredAt s t (s.addr m) 2 (value s).toNat ∧
        t.sw &&& 0xB8FF = s.sw &&& 0xB8FF) ∧
    ∀ f, accessFault s.faultMap true (s.addr m) 2 = some f → HandsOver i s f.vector := by
  refine ⟨fun hw => ?_, fun f hf => h.trans (congrArg _ (storeWordRule_fault (s := s.normal) value hf))⟩
  rw [storeWordRule_writable (s := s.normal) value hw, hv] at h
  exact ⟨_, h, rfl, storedAt_writeLE hm (by decide) rfl, drawCodes_mask _ rfl⟩

/-- Settles O47: each rule is one 2-byte store of its register, and a draw of the condition codes. -/
theorem storesControlAndStatus : Obligations.StoresControlAndStatus := by
  refine ⟨fun m => ⟨rfl, rfl⟩, fun x hx s m hs hm => ?_⟩
  simp only [List.mem_cons, List.not_mem_nil, or_false] at hx
  obtain rfl | rfl := hx
  · exact exec_storeWord (value := State.cw) (exec_ready nofun hs) rfl hm
  · exact exec_storeWord (value := State.sw) (exec_ready nofun hs) rfl hm

/-- Settles O49: CW receives the operand, and ES and B are recomputed under it. -/
theorem loadsControlWord : Obligations.LoadsControlWord := by
  refine ⟨fun m => rfl, fun s m hs hr =>
    ⟨_, run_rule (i := .fldcw m) nofun hs (loadCwRule_readable (s := s.normal) hr), rfl, rfl, ?_⟩⟩
  obtain ⟨hkept, hes, hb⟩ := recomputed_drawn s.normal (cwStored (BitVec.ofNat 16 (s.operand m 2)))
  refine ⟨hkept, ?_, hb⟩
  rw [← bne_iff_ne]
  exact iff_of_eq (congrArg (· = true) hes)

/-! ## FNSTSW AX, FNCLEX, FNINIT, FNENI, FNDISI and FNSETPM (R374 to R380) -/

/-- The low half of EAX replaced by SW (R377, R53). -/
theorem gprWithStatus_eax (s : State) : (gprWithStatus s).eax = s.gpr.eax.extractLsb' 16 16 ++ s.sw := by
  apply BitVec.eq_of_getLsbD_eq
  intro j hj
  rw [BitVec.getLsbD_append]
  interval_cases j <;> simp [gprWithStatus]

theorem regForm_fnstswAx_none : ∀ rm : BitVec 3, rm ≠ 0 → regForm 7 4 rm = none := by decide

/-- Settles O48: FNSTSW AX alone writes a general register, the low half of EAX. -/
theorem statusToAx : Obligations.StatusToAx := by
  refine ⟨rfl, regForm_fnstswAx_none, fun i s t h hi => (exec_gpr h).resolve_right fun hax => hi hax.1, fun s hs =>
    ⟨_, exec_ready nofun hs, rfl, ?_, drawCodes_mask _ rfl⟩⟩
  rw [← gprWithStatus_eax]
  rfl

/-- Settles O50: the flags, ES and B are outside the bits that FNCLEX keeps, and TOP is inside them. -/
theorem clearsExceptions : Obligations.ClearsExceptions := by
  refine ⟨rfl, fun s hs => ⟨_, exec_ready nofun hs, rfl, ?_, ?_⟩⟩
  · refine (drawCodes_mask _ rfl).trans ?_
    show s.sw &&& 0x7F00 &&& 0x80FF = 0
    rw [BitVec.and_assoc]
    exact BitVec.and_zero
  · refine (top_drawCodes _).trans (topOf_eq ?_ ?_ ?_) <;> exact (BitVec.getLsbD_and ..).trans (Bool.and_true _)

/-- Settles O51: the fields that FNINIT writes are the rule's own. -/
theorem initialises : Obligations.Initialises :=
  ⟨rfl, fun _ hs => ⟨_, exec_ready nofun hs, rfl, rfl⟩⟩

/-- Settles O46: the rule of each is the identity. -/
theorem controlNoEffect : Obligations.ControlNoEffect := by
  refine ⟨rfl, rfl, rfl, fun i hi s hs => ?_⟩
  simp only [List.mem_cons, List.not_mem_nil, or_false] at hi
  obtain rfl | rfl | rfl := hi <;> exact exec_ready nofun hs

end Sys2Proof.Machine
end

section
/-! SUPPORT. The store of a memory image, field after field (spec/20_memory.md R85 to R88): where it stops, what reads back,
and what it leaves alone. -/

namespace Sys2Proof.Machine

variable {map : List FaultRegion} {mem : List Host.Cell} {a : Word32}

/-- The offset and the width of a field. -/
def Field.slot (f : Field) : Nat × Nat := (f.off, f.len)

/-- The number of bytes that fields take. -/
def fieldsSize (fs : List Field) : Nat := slotsSize (fs.map Field.slot)

/-- The fields stand one after the other, the first at offset `off`. -/
def Consecutive (off : Nat) (fs : List Field) : Prop := consecutive off (fs.map Field.slot) = true

/-- Memory after the fields are written at `a`, in order. -/
def storeFields (a : Word32) (mem : List Host.Cell) (fs : List Field) : List Host.Cell :=
  fs.foldl (fun mem f => writeLE mem (a + BitVec.ofNat 32 f.off) f.len f.value) mem

theorem storeFields_cons (f : Field) (fs : List Field) :
    storeFields a mem (f :: fs) = storeFields a (writeLE mem (a + BitVec.ofNat 32 f.off) f.len f.value) fs := rfl

theorem fieldsSize_cons (f : Field) (fs : List Field) : fieldsSize (f :: fs) = f.len + fieldsSize fs := rfl

theorem consecutive_cons_iff {off : Nat} {f : Field} {fs : List Field} :
    Consecutive off (f :: fs) ↔ f.off = off ∧ Consecutive (off + f.len) fs := by
  simp [Consecutive, consecutive, Field.slot]

/-! ## The fault of an image -/

/-- The fault of an image is that of its first field, and without one that of the others. -/
theorem accessFault_fields (map : List FaultRegion) (a : Word32) (f : Field) (fs : List Field) :
    accessFault map true (a + BitVec.ofNat 32 f.off) (fieldsSize (f :: fs)) =
      (accessFault map true (a + BitVec.ofNat 32 f.off) f.len).or
        (accessFault map true (a + BitVec.ofNat 32 (f.off + f.len)) (fieldsSize fs)) :=
  accessFault_slots map true a f.slot (fs.map Field.slot)

theorem writeFields_cons_fault {f : Field} {fs : List Field} {e : MemFault}
    (h : accessFault map true (a + BitVec.ofNat 32 f.off) f.len = some e) :
    writeFields map mem a (f :: fs) = (mem, some e) := by
  rw [writeFields, h]

theorem writeFields_cons_accessible {f : Field} {fs : List Field}
    (h : accessFault map true (a + BitVec.ofNat 32 f.off) f.len = none) :
    writeFields map mem a (f :: fs) = writeFields map (writeLE mem (a + BitVec.ofNat 32 f.off) f.len f.value) a fs := by
  rw [writeFields, h]

/-- Without a fault in the range that they fill, all fields are written. -/
theorem writeFields_accessible : ∀ {fs : List Field} {off : Nat} {mem : List Host.Cell}, Consecutive off fs →
    accessFault map true (a + BitVec.ofNat 32 off) (fieldsSize fs) = none →
      writeFields map mem a fs = (storeFields a mem fs, none)
  | [], _, _, _, _ => rfl
  | f :: fs, off, mem, hc, h => by
    obtain ⟨rfl, hc⟩ := consecutive_cons_iff.mp hc
    rw [accessFault_fields, Option.or_eq_none_iff] at h
    obtain ⟨hf, h⟩ := h
    rw [writeFields_cons_accessible hf, writeFields_accessible hc h, storeFields_cons]

/-- A fault in the range is that of one field, and the fields before it are written (R85). -/
theorem writeFields_fault {e : MemFault} : ∀ {fs : List Field} {off : Nat} {mem : List Host.Cell}, Consecutive off fs →
    accessFault map true (a + BitVec.ofNat 32 off) (fieldsSize fs) = some e →
      ∃ k f, fs[k]? = some f ∧ accessFault map true (a + BitVec.ofNat 32 f.off) f.len = some e ∧
        writeFields map mem a fs = (storeFields a mem (fs.take k), some e)
  | [], _, _, _, h => nomatch h
  | f :: fs, off, mem, hc, h => by
    obtain ⟨rfl, hc⟩ := consecutive_cons_iff.mp hc
    rw [accessFault_fields] at h
    cases hf : accessFault map true (a + BitVec.ofNat 32 f.off) f.len with
    | some e' =>
      rw [hf, Option.some_or] at h
      cases h
      exact ⟨0, f, rfl, hf, writeFields_cons_fault hf⟩
    | none =>
      rw [hf, Option.none_or] at h
      obtain ⟨k, g, hk, hg, hw⟩ := writeFields_fault hc h
      exact ⟨k + 1, g, hk, hg, (writeFields_cons_accessible hf).trans hw⟩

/-! ## The bytes of an image -/

/-- The bytes outside the range that the fields fill are left alone. -/
theorem readByte_storeFields_other {x : Nat} : ∀ {fs : List Field} {off : Nat} {mem : List Host.Cell},
    Consecutive off fs → Memory.wf mem = true →
      (∀ i, off ≤ i → i < off + fieldsSize fs → x ≠ (a + BitVec.ofNat 32 i).toNat) →
        readByte (storeFields a mem fs) x = readByte mem x
  | [], _, _, _, _, _ => rfl
  | f :: fs, off, mem, hc, hm, hx => by
    obtain ⟨rfl, hc⟩ := consecutive_cons_iff.mp hc
    rw [fieldsSize_cons] at hx
    rw [storeFields_cons, readByte_storeFields_other hc (writeLE_wf _ _ _ hm) fun i hl hu => hx i (by omega) (by omega)]
    refine readByte_writeLE_other _ _ _ _ (fun i hi => ?_) hm
    rw [BitVec.add_assoc, ← BitVec.ofNat_add]
    exact hx _ (by omega) (by omega)

/-- Each field reads back, where the image does not run into itself. -/
theorem readLE_storeFields {g : Field} : ∀ {fs : List Field} {off : Nat} {mem : List Host.Cell}, Consecutive off fs →
    Memory.wf mem = true → off + fieldsSize fs ≤ 2 ^ 32 → g ∈ fs →
      readLE (storeFields a mem fs) (a + BitVec.ofNat 32 g.off) g.len = g.value % 256 ^ g.len
  | f :: fs, off, mem, hc, hm, hs, hg => by
    obtain ⟨rfl, hc⟩ := consecutive_cons_iff.mp hc
    rw [fieldsSize_cons] at hs
    have hm' := writeLE_wf f.len (a + BitVec.ofNat 32 f.off) f.value hm
    rw [storeFields_cons]
    rcases List.mem_cons.mp hg with rfl | hg
    · rw [readLE_congr g.len (mem' := writeLE mem (a + BitVec.ofNat 32 g.off) g.len g.value),
        readLE_writeLE_same _ _ _ (by omega) hm]
      intro i hi
      refine readByte_storeFields_other hc hm' fun j hl hu => ?_
      rw [BitVec.add_assoc, ← BitVec.ofNat_add]
      exact toNat_add_ne (by omega) (by omega) (by omega)
    · exact readLE_storeFields hc hm' (by omega) hg

end Sys2Proof.Machine
end

section
/-! SUPPORT. FNSTENV and FNSAVE (spec/46_control.md R381, R384, R386): the fields that they store, and what they leave. -/

namespace Sys2Proof.Machine

variable {s : State} {m : MemOp}

/-! ## The environment image in numbers (R86) -/

theorem toNat_append_eq {k n : Nat} (x : BitVec k) (y : BitVec n) : (x ++ y).toNat = x.toNat * 2 ^ n + y.toNat := by
  rw [BitVec.toNat_append, ← Nat.shiftLeft_add_eq_or_of_lt y.isLt, Nat.shiftLeft_eq]

theorem toNat_tagCode (t : Tag) : (tagCode t).toNat = t.code := by cases t <;> rfl

/-- A vector of eight, in a list. -/
theorem toList_tags (s : State) :
    s.tags.toList = [s.tag 0, s.tag 1, s.tag 2, s.tag 3, s.tag 4, s.tag 5, s.tag 6, s.tag 7] := by
  apply List.ext_getElem
  · simp
  · intro k hk hk'
    rw [Vector.length_toList] at hk
    interval_cases k <;> simp [State.tag]

/-- The tag word is the number of its eight tags (R34). -/
theorem toNat_tagImage (s : State) : (tagImage s).toNat = s.tagWord := by
  rw [State.tagWord, toList_tags]
  simp only [tagImage, toNat_append_eq, toNat_tagCode, tagsValue]
  omega

/-! The fields of the four layouts that are put together of parts. -/

theorem toNat_low16 (p : Word32) : (p.extractLsb' 0 16).toNat = p.toNat % 2 ^ 16 := BitVec.extractLsb'_toNat ..

theorem toNat_high16 (p : Word32) : (p.extractLsb' 16 16).toNat = p.toNat / 2 ^ 16 := by
  rw [BitVec.extractLsb'_toNat, Nat.shiftRight_eq_div_pow, Nat.mod_eq_of_lt]
  have := p.isLt
  omega

theorem toNat_next4 (p : Word32) : (p.extractLsb' 16 4).toNat = p.toNat / 2 ^ 16 % 16 := by
  rw [BitVec.extractLsb'_toNat, Nat.shiftRight_eq_div_pow]

theorem toNat_ones_append (v : Word16) : BitVec.toNat (w := 32) ((0xFFFF : Word16) ++ v) = 0xFFFF0000 + v.toNat :=
  toNat_append_eq _ v

theorem toNat_fop_fcs (fop : BitVec 11) (fcs : Word16) :
    BitVec.toNat (w := 32) (0#5 ++ fop ++ fcs) = fop.toNat * 2 ^ 16 + fcs.toNat := by
  refine (toNat_append_eq (0#5 ++ fop) fcs).trans ?_
  simp only [toNat_append_eq, BitVec.toNat_zero]
  omega

theorem toNat_pointer_fop (p : Word32) (fop : BitVec 11) :
    BitVec.toNat (w := 16) (p.extractLsb' 16 4 ++ 0#1 ++ fop) = p.toNat / 2 ^ 16 % 16 * 2 ^ 12 + fop.toNat := by
  refine (toNat_append_eq (p.extractLsb' 16 4 ++ 0#1) fop).trans ?_
  simp only [toNat_append_eq, toNat_next4, BitVec.toNat_zero]
  omega

theorem toNat_pointer (p : Word32) :
    BitVec.toNat (w := 16) (p.extractLsb' 16 4 ++ 0#12) = p.toNat / 2 ^ 16 % 16 * 2 ^ 12 := by
  refine (toNat_append_eq (p.extractLsb' 16 4) 0#12).trans ?_
  rw [toNat_next4, BitVec.toNat_zero, Nat.add_zero]

theorem toNat_pointer_fop32 (p : Word32) (fop : BitVec 11) :
    BitVec.toNat (w := 32) (0#4 ++ p.extractLsb' 16 16 ++ 0#1 ++ fop) = p.toNat / 2 ^ 16 * 2 ^ 12 + fop.toNat := by
  refine (toNat_append_eq (0#4 ++ p.extractLsb' 16 16 ++ 0#1) fop).trans ?_
  simp only [toNat_append_eq, toNat_high16, BitVec.toNat_zero]
  omega

theorem toNat_pointer32 (p : Word32) :
    BitVec.toNat (w := 32) (0#4 ++ p.extractLsb' 16 16 ++ 0#12) = p.toNat / 2 ^ 16 * 2 ^ 12 := by
  refine (toNat_append_eq (0#4 ++ p.extractLsb' 16 16) 0#12).trans ?_
  simp only [toNat_append_eq, toNat_high16, BitVec.toNat_zero]
  omega

/-- The fields that the rules store, layout by layout, are those of the image. -/
theorem envFields_eq (s : State) : envFields s.layout s = environmentImage s := by
  unfold envFields State.layout environmentImage
  cases s.inp.opSize with
  | o16 =>
    cases s.mode with
    | prot => simp only [layoutOf, toNat_low16, toNat_tagImage]; rfl
    | real | vm86 => simp only [layoutOf, toNat_low16, toNat_tagImage, toNat_pointer, toNat_pointer_fop]; rfl
  | o32 =>
    cases s.mode with
    | prot => simp only [layoutOf, toNat_ones_append, toNat_fop_fcs, toNat_tagImage]; rfl
    | real | vm86 =>
      simp only [layoutOf, toNat_ones_append, toNat_low16, toNat_tagImage, toNat_pointer32, toNat_pointer_fop32]; rfl

/-! ## The image -/

theorem imageOf_false (s : State) : imageOf s false = envFields s.layout s :=
  (List.append_nil _).trans (envFields_eq s).symm

theorem imageOf_true (s : State) : imageOf s true = saveFields s.layout s := by
  rw [saveFields, envFields_eq, layout_size]
  rfl

theorem slots_fieldsFrom (n : Nat) : ∀ (vs : List Nat) (off : Nat),
    (fieldsFrom n off vs).map Field.slot = slotsFrom n off vs.length
  | [], _ => rfl
  | _ :: vs, off => congrArg ((off, n) :: ·) (slots_fieldsFrom n vs (off + n))

theorem slots_envFields (l : Layout) (s : State) : (envFields l s).map Field.slot = envSlots l := by
  rw [envFields, slots_fieldsFrom]
  cases l <;> rfl

/-- The offsets and widths that are stored are those that are read. -/
theorem slots_imageOf (s : State) (save : Bool) : (imageOf s save).map Field.slot = imageSlots s.layout save := by
  cases save with
  | false => rw [imageOf_false, slots_envFields]; rfl
  | true => rw [imageOf_true, saveFields, List.map_append, slots_envFields, slots_fieldsFrom]; rfl

theorem consecutive_imageOf (s : State) (save : Bool) : Consecutive 0 (imageOf s save) := by
  rw [Consecutive, slots_imageOf]
  exact consecutive_imageSlots s.layout save

theorem fieldsSize_imageOf (s : State) (save : Bool) : fieldsSize (imageOf s save) = imageSize s save := by
  rw [fieldsSize, slots_imageOf, slotsSize_imageSlots]

theorem imageSize_le (s : State) (save : Bool) : imageSize s save ≤ 108 := by
  unfold imageSize
  cases s.inp.opSize <;> cases save <;> decide

/-- Every field's value fits in its bytes. -/
theorem imageOf_fits (s : State) (save : Bool) : ∀ f ∈ imageOf s save, f.value < 256 ^ f.len := by
  have hw (v : Word16) : v.toNat < 256 ^ 2 := v.isLt
  have hd (v : Word32) : v.toNat < 256 ^ 4 := v.isLt
  have hr (v : F80) : v.toNat < 256 ^ 10 := v.isLt
  have henv : ∀ f ∈ environmentImage s, f.value < 256 ^ f.len := by
    unfold environmentImage
    dsimp only
    split <;> simp only [List.forall_mem_cons, hw, hd, true_and] <;> exact nofun
  refine List.forall_mem_append.mpr ⟨henv, ?_⟩
  cases save with
  | false => exact nofun
  | true => exact List.forall_mem_map.mpr fun k _ => hr _

/-- Memory after FNSTENV, or with `save` FNSAVE, has stored its image. -/
def imageMem (s : State) (m : MemOp) (save : Bool) : List Host.Cell := storeFields (s.addr m) s.mem (imageOf s save)

theorem readLE_imageMem {save : Bool} (hm : Memory.wf s.mem = true) {f : Field} (hf : f ∈ imageOf s save) :
    readLE (imageMem s m save) (s.addr m + BitVec.ofNat 32 f.off) f.len = f.value := by
  have hsize := imageSize_le s save
  rw [← fieldsSize_imageOf] at hsize
  rw [imageMem, readLE_storeFields (consecutive_imageOf s save) hm (by omega) hf,
    Nat.mod_eq_of_lt (imageOf_fits s save f hf)]

theorem readByte_imageMem_other {save : Bool} (hm : Memory.wf s.mem = true) {x : Nat}
    (hx : ∀ k, k < imageSize s save → x ≠ (s.addr m + BitVec.ofNat 32 k).toNat) :
    readByte (imageMem s m save) x = readByte s.mem x := by
  refine readByte_storeFields_other (consecutive_imageOf s save) hm fun k _ hk => hx k ?_
  rwa [fieldsSize_imageOf, Nat.zero_add] at hk

/-! ## FNSTENV and FNSAVE -/

theorem storeImage_writable {save : Bool} (h : Writable s m (imageSize s save)) (after : State → State) :
    storeImage (imageOf s save) m after s = after { s with mem := imageMem s m save } := by
  rw [Writable, ← fieldsSize_imageOf, ← BitVec.add_zero (s.addr m)] at h
  rw [storeImage, writeFields_accessible (consecutive_imageOf s save) h]
  rfl

/-- An image that may not be written ends with the fields before the fault stored (R85). -/
theorem storeImage_fault {save : Bool} {e : MemFault}
    (h : accessFault s.faultMap true (s.addr m) (imageSize s save) = some e) (after : State → State) :
    ∃ k f, (imageOf s save)[k]? = some f ∧
      accessFault s.faultMap true (s.addr m + BitVec.ofNat 32 f.off) f.len = some e ∧
      storeImage (imageOf s save) m after s = { s with mem := afterFields s m (imageOf s save) k }.raiseCpu e.vector := by
  rw [← fieldsSize_imageOf, ← BitVec.add_zero (s.addr m)] at h
  obtain ⟨k, f, hk, hf, hw⟩ := writeFields_fault (mem := s.mem) (consecutive_imageOf s save) h
  refine ⟨k, f, hk, hf, ?_⟩
  rw [storeImage, hw]
  rfl

/-- Both instructions store their image, and then do what is their own. -/
theorem exec_storeImage (m : MemOp) (save : Bool) (hs : Ready .nonwaiting s) :
    exec (if save then .fnsave m else .fnstenv m) s =
      .next (storeImage (imageOf s.normal save) m (if save then State.fninit else maskAll) s.normal) := by
  cases save with
  | false => rw [imageOf_false]; exact exec_ready nofun hs
  | true => rw [imageOf_true]; exact exec_ready nofun hs

/-- With every mask set no flag is unmasked. -/
theorem unmaskedPending_maskAll (sw cw : Word16) : unmaskedPending sw (cw ||| 0x003F) = false := by
  rw [unmaskedPending_eq]
  simp

/-- FNSTENV's last act: every exception masked, and ES and B clear (R384). -/
theorem maskAll_leaves (s : State) :
    let t := maskAll s
    t.sw &&& 0x387F = s.sw &&& 0x387F ∧ swES t.sw = false ∧ t.sw.getLsbD 15 = false := by
  obtain ⟨hkept, hes, hb⟩ := recomputed_drawn s (s.cw ||| 0x003F)
  rw [unmaskedPending_maskAll] at hes
  exact ⟨hkept, hes, hb.trans hes⟩

/-- Settles O52: the image is stored field after field, and what follows is FNINIT's or `maskAll`'s own. -/
theorem storesEnvironment : Obligations.StoresEnvironment := by
  intro save s m hs hm i
  have hexec : exec i s = _ := exec_storeImage m save hs
  refine ⟨fun hw => ?_, fun e he => ?_⟩
  · have hread := fun f => readLE_imageMem (m := m) (save := save) (f := f) hm
    have hother := fun x => readByte_imageMem_other (m := m) (save := save) (x := x) hm
    rw [storeImage_writable (s := s.normal) hw] at hexec
    refine ⟨_, hexec, ?_⟩
    cases save with
    | false => exact ⟨hread, hother, rfl, maskAll_leaves _⟩
    | true => exact ⟨hread, hother, rfl⟩
  · obtain ⟨k, f, hk, hf, hw⟩ := storeImage_fault (s := s.normal) he _
    exact ⟨k, f, hk, hf, hexec.trans (congrArg _ hw)⟩

end Sys2Proof.Machine
end

section
/-! SUPPORT. FNSAVE and then FRSTOR (spec/46_control.md R386, R387): the environment that an image holds is the one it was
stored from, and loading it restores what the invariant says of it. -/

namespace Sys2Proof.Machine

variable {s t u : State} {m : MemOp}

/-! ## The environment read back (R86, R382) -/

/-- `READ_ENV` of the seven values that are stored in a layout. -/
def imageEnv (l : Layout) (s : State) : Env :=
  let v := fun k => (envValues l s).getD k 0
  envOf l (v 0) (v 1) (v 2) (v 3) (v 4) (v 5) (v 6)

theorem ofNat_ones_add (v : Word16) : BitVec.ofNat 16 (0xFFFF0000 + v.toNat) = v := by
  apply BitVec.eq_of_toNat_eq
  rw [BitVec.toNat_ofNat]
  omega

theorem ofNat_toNat_self {w : Nat} (v : BitVec w) : BitVec.ofNat w v.toNat = v :=
  (BitVec.ofNat_toNat w v).trans v.setWidth_eq

@[simp] theorem imageEnv_cw (l : Layout) (s : State) : (imageEnv l s).cw = s.cw := by
  cases l with
  | prot16 | real16 => exact ofNat_toNat_self s.cw
  | prot32 | real32 => exact ofNat_ones_add s.cw

@[simp] theorem imageEnv_sw (l : Layout) (s : State) : (imageEnv l s).sw = s.sw := by
  cases l with
  | prot16 | real16 => exact ofNat_toNat_self s.sw
  | prot32 | real32 => exact ofNat_ones_add s.sw

@[simp] theorem imageEnv_tw (l : Layout) (s : State) : (imageEnv l s).tw = tagImage s := by
  have h16 := ofNat_toNat_self (tagImage s)
  have h32 := ofNat_ones_add (tagImage s)
  rw [toNat_tagImage] at h16 h32
  cases l with
  | prot16 | real16 => exact h16
  | prot32 | real32 => exact h32

/-- The 32-bit protected layout holds the pointers whole. -/
theorem imageEnv_prot32 (s : State) :
    let e := imageEnv .prot32 s
    e.fip = s.fip ∧ e.fcs = s.fcs ∧ e.fop = s.fop ∧ e.fdp = s.fdp ∧ e.fds = s.fds := by
  refine ⟨ofNat_toNat_self s.fip, ?_, ?_, ofNat_toNat_self s.fdp, ofNat_ones_add s.fds⟩
  · apply BitVec.eq_of_toNat_eq
    show BitVec.toNat (BitVec.ofNat 16 (s.fop.toNat * 2 ^ 16 + s.fcs.toNat)) = s.fcs.toNat
    rw [BitVec.toNat_ofNat]
    omega
  · apply BitVec.eq_of_toNat_eq
    show BitVec.toNat (BitVec.ofNat 11 (bitsOf (s.fop.toNat * 2 ^ 16 + s.fcs.toNat) 16 11)) = s.fop.toNat
    rw [BitVec.toNat_ofNat, bitsOf]
    omega

theorem mem_fieldsFrom (n : Nat) : ∀ {vs : List Nat} {k : Nat} (off : Nat), k < vs.length →
    ⟨off + n * k, n, vs.getD k 0⟩ ∈ fieldsFrom n off vs
  | v :: vs, 0, off, _ => List.mem_cons_self
  | v :: vs, k + 1, off, h => by
    have hk := mem_fieldsFrom n (off + n) (Nat.lt_of_succ_lt_succ h)
    rw [Nat.add_assoc, Nat.add_comm n, ← Nat.mul_succ] at hk
    exact List.mem_cons_of_mem _ hk

theorem length_envValues (l : Layout) (s : State) : (envValues l s).length = 7 := by cases l <;> rfl

/-- Where memory holds the image of `s`, in the same layout, the environment at the operand is that of the image. -/
theorem envAt_of_image (hl : t.layout = s.layout)
    (h : ∀ f ∈ environmentImage s, readLE t.mem (t.addr m + BitVec.ofNat 32 f.off) f.len = f.value) :
    envAt t m = imageEnv s.layout s := by
  rw [← envFields_eq] at h
  have hfield {k : Nat} (hk : k < 7) : envField t m k = (envValues s.layout s).getD k 0 := by
    have hmem := mem_fieldsFrom s.layout.width 0 (hk.trans_eq (length_envValues s.layout s).symm)
    rw [Nat.zero_add] at hmem
    rw [envField, hl]
    exact h _ hmem
  rw [← envOf_envField, hl]
  simp [hfield, imageEnv]

/-! ## The tag word read back (R34, R383) -/

/-- The digits of a tag word are its tags. -/
theorem tagsValue_digit : ∀ {ts : List Tag} {k : Nat} (h : k < ts.length), tagsValue ts / 4 ^ k % 4 = ts[k].code
  | t :: ts, 0, _ => by
    have ht : t.code < 4 := by cases t <;> decide
    rw [tagsValue, pow_zero, Nat.div_one, Nat.add_mul_mod_self_left, Nat.mod_eq_of_lt ht]
    rfl
  | t :: ts, k + 1, h => by
    have ht : t.code < 4 := by cases t <;> decide
    rw [tagsValue, Nat.pow_succ', ← Nat.div_div_eq_div_mul, Nat.add_mul_div_left _ _ (by decide), Nat.div_eq_of_lt ht,
      Nat.zero_add]
    exact tagsValue_digit (Nat.lt_of_succ_lt_succ h)

/-- Bits 2k+1:2k of the tag word are 11 exactly when R[k] is empty. -/
theorem tagImage_empty_iff (s : State) (k : BitVec 3) :
    (tagImage s).extractLsb' (2 * k.toNat) 2 = 3 ↔ s.tag k = .empty := by
  have hcode : ((tagImage s).extractLsb' (2 * k.toNat) 2).toNat = (s.tag k).code := by
    rw [BitVec.extractLsb'_toNat, Nat.shiftRight_eq_div_pow, pow_mul, toNat_tagImage]
    exact (tagsValue_digit (ts := s.tags.toList) (by simpa using k.isLt)).trans (by simp [State.tag])
  rw [← BitVec.toNat_inj, hcode]
  cases s.tag k <;> decide

/-! ## FNSAVE and then FRSTOR -/

/-- Two vectors of eight that agree at every register number are the same. -/
theorem eq_of_registers {α : Type} {v w : Vector α 8} (h : ∀ k : BitVec 3, v[k.toNat] = w[k.toNat]) : v = w := by
  ext i hi
  have := h (BitVec.ofNat 3 i)
  simpa [Nat.mod_eq_of_lt hi] using this

/-- A status word is its flags, codes and TOP with ES and B. -/
theorem sw_eq_of {a b : Word16} (h : a &&& 0x7F7F = b &&& 0x7F7F) (hes : a.getLsbD 7 = b.getLsbD 7)
    (hb : a.getLsbD 15 = b.getLsbD 15) : a = b := by
  apply BitVec.eq_of_getLsbD_eq
  intro j hj
  have hand := congrArg (fun w => w.getLsbD j) h
  simp only [BitVec.getLsbD_and] at hand
  by_cases hj' : j = 7 ∨ j = 15
  · obtain rfl | rfl := hj' <;> assumption
  · have hmask : (0x7F7F : Word16).getLsbD j = true := by interval_cases j <;> simp_all
    simpa only [hmask, Bool.and_true] using hand

/-- `INSTALL_ENV` of CW, SW and the tag word of a state that has the invariant, over its registers, restores CW, SW and the
tags (R383). -/
theorem Installed.restores {e : Env} (h : Inv s) (hu : Installed u e) (hcw : e.cw = s.cw) (hsw : e.sw = s.sw)
    (htw : e.tw = tagImage s) (hr : u.regs = s.regs) : u.cw = s.cw ∧ u.sw = s.sw ∧ u.tags = s.tags := by
  obtain ⟨hucw, husw, hes, hb, htags, -⟩ := hu
  have hc : u.cw = s.cw := by
    rw [hucw, hcw]
    exact h.control
  rw [hsw] at husw hes
  have hes' : swES u.sw = swES s.sw := by
    rw [Bool.eq_iff_iff, hes, hc, h.summary, unmaskedPending, bne_iff_ne]
  refine ⟨hc, sw_eq_of husw hes' (by rw [hb, hes', h.busy]), eq_of_registers fun k => ?_⟩
  show u.tag k = s.tag k
  rw [htags, htw]
  by_cases hk : s.tag k = .empty
  · rw [if_pos ((tagImage_empty_iff s k).mpr hk), hk]
  · rw [if_neg ((tagImage_empty_iff s k).not.mpr hk), h.tags k hk, State.reg, hr]
    rfl

/-- After FNINIT no exception is pending. -/
theorem ready_fninit (h : Ready .nonwaiting s) : Ready .waiting s.fninit := by
  obtain ⟨hlock, hcr0, hsoft, -⟩ := h
  exact ⟨hlock, hcr0, hsoft, fun _ => (by decide : swES 0x0000 = false)⟩

/-- The operand in `t` holds the save image of `s`, in the layout of both. -/
structure HoldsImage (s t : State) (m : MemOp) : Prop where
  inp : t.inp = s.inp
  mode : t.mode = s.mode
  field : ∀ f ∈ imageOf s true, readLE t.mem (t.addr m + BitVec.ofNat 32 f.off) f.len = f.value

theorem HoldsImage.size (h : HoldsImage s t m) (save : Bool) : imageSize t save = imageSize s save := by
  rw [imageSize, h.inp]
  rfl

theorem HoldsImage.env (h : HoldsImage s t m) : envAt t m = imageEnv s.layout s := by
  refine envAt_of_image ?_ fun f hf => h.field f (List.mem_append_left _ hf)
  rw [State.layout, h.inp, h.mode]
  rfl

/-- The image holds ST(j) after the environment (R87). -/
theorem HoldsImage.register (h : HoldsImage s t m) (j : BitVec 3) :
    BitVec.ofNat 80 (readLE t.mem (t.addr m + BitVec.ofNat 32 (imageSize t false + 10 * j.toNat)) 10) = s.st j := by
  have hmem : ⟨imageSize s false + 10 * j.toNat, 10, (s.st j).toNat⟩ ∈ imageOf s true := by
    refine List.mem_append_right _ (List.mem_map.mpr ⟨j.toNat, List.mem_range.mpr j.isLt, ?_⟩)
    rw [ofNat_toNat_self]
  rw [h.size, h.field _ hmem, ofNat_toNat_self]

/-- FNSAVE leaves its image at its operand, and a state in which FRSTOR may read it. -/
theorem exec_fnsave (hs : Ready .nonwaiting s) (hm : Memory.wf s.mem = true) (hw : Writable s m (imageSize s true))
    (hr : Readable s m (imageSize s true)) :
    ∃ t, exec (.fnsave m) s = .next t ∧ HoldsImage s t m ∧ Ready .waiting t ∧ Readable t m (imageSize t true) := by
  obtain ⟨t, ht, hread, -, hinit⟩ := (storesEnvironment true s m hs hm).1 hw
  replace hinit : t = { s with mem := t.mem, completion := .normal }.fninit := hinit
  refine ⟨t, ht, ?_, ?_, ?_⟩
  · refine ⟨by rw [hinit]; rfl, by rw [hinit]; rfl, ?_⟩
    rw [show t.addr m = s.addr m by rw [hinit]; rfl]
    exact hread
  · rw [hinit]
    exact ready_fninit hs
  · rw [hinit]
    exact hr

/-- FRSTOR of the image of a state that has the invariant restores that state's registers, tags, CW and SW, and the pointers
that the image holds. -/
theorem exec_frstor (hi : HoldsImage s t m) (h : Inv s) (ht : Ready .waiting t) (hr : Readable t m (imageSize t true)) :
    ∃ u, exec (.frstor m) t = .next u ∧ u.regs = s.regs ∧ u.tags = s.tags ∧ u.cw = s.cw ∧ u.sw = s.sw ∧
      Installed u (imageEnv s.layout s) := by
  obtain ⟨u, hu, hinst, hregs, -⟩ := loadsEnvironment true t m ht hr
  replace hregs : ∀ j : BitVec 3, _ := hregs
  rw [hi.env] at hinst hregs
  have hreg : u.regs = s.regs := eq_of_registers fun k => by
    have hk := (hregs (k - s.top)).trans (hi.register _)
    have htop : s.top + (k - s.top) = k := by rw [BitVec.add_comm, BitVec.sub_add_cancel]
    rw [imageEnv_sw, State.st, State.phys, htop] at hk
    exact (congrArg u.reg htop.symm).trans hk
  obtain ⟨hcw, hsw, htags⟩ := hinst.restores h (imageEnv_cw _ s) (imageEnv_sw _ s) (imageEnv_tw _ s) hreg
  exact ⟨u, hu, hreg, htags, hcw, hsw, hinst⟩

/-- Settles O54: FRSTOR reads back the fields that FNSAVE stored, and what it installs is what the invariant says of them. -/
theorem saveRestores : Obligations.SaveRestores := by
  intro s m h hs hw hr
  obtain ⟨t, ht, hi, hready, hread⟩ := exec_fnsave hs h.memory hw hr
  obtain ⟨u, hu, hregs, htags, hcw, hsw, hinst⟩ := exec_frstor hi h hready hread
  refine ⟨t, u, ht, hu, hregs, htags, hcw, hsw, fun hop hmode => ?_⟩
  obtain ⟨-, -, -, -, -, hfip, hfcs, hfop, hfdp, hfds⟩ := hinst
  rw [State.layout, hop, hmode] at hfip hfcs hfop hfdp hfds
  obtain ⟨hfip', hfcs', hfop', hfdp', hfds'⟩ := imageEnv_prot32 s
  exact ⟨hfip.trans hfip', hfcs.trans hfcs', hfop.trans hfop', hfdp.trans hfdp', hfds.trans hfds'⟩

end Sys2Proof.Machine
end

section
/-! SUPPORT. The exceptions of spec/60_exceptions.md: the checks of FPU_ENTRY in their order (R420 to R424), the instructions
that never report (R434), and the deferred request (R426). -/

namespace Sys2Proof.Machine

variable {i : Instr} {kind : Kind} {s t : State} {rule : State → State}

/-! ## FPU_ENTRY, check by check (R420) -/

/-- The LOCK check comes first (R415). -/
theorem escape_locked (hl : s.inp.lock = true) : escape kind s rule = .next (s.raiseCpu .invalidOpcode) :=
  if_pos hl

/-- CR0.EM and CR0.TS are tested next (R421). -/
theorem escape_notAvailable (hl : s.inp.lock = false) (hc : s.cr0 &&& 0xC ≠ 0) :
    escape kind s rule = .next (s.raiseCpu .deviceNotAvailable) :=
  (if_neg (by simp [hl])).trans (if_pos hc)

/-- Past those two checks native mode is refused (R7). -/
theorem escape_native (hl : s.inp.lock = false) (hc : s.cr0 &&& 0xC = 0) (hs : s.params.softfloat = false) :
    escape kind s rule = .refused .nativePassthrough :=
  (if_neg (by simp [hl])).trans ((if_neg (not_not.mpr hc)).trans (if_pos hs))

/-- A pending exception stops a waiting instruction (R422). -/
theorem escape_pending (hl : s.inp.lock = false) (hc : s.cr0 &&& 0xC = 0) (hs : s.params.softfloat = true)
    (he : swES s.sw = true) : escape .waiting s rule = .next s.report :=
  (if_neg (by simp [hl])).trans ((if_neg (not_not.mpr hc)).trans ((if_neg (by simp [hs])).trans (if_pos ⟨rfl, he⟩)))

/-- What FPU_ENTRY can do and when: it refuses in native mode alone, and reports for a waiting instruction alone (R434). -/
theorem escape_outcomes (kind : Kind) (s : State) (rule : State → State) :
    (∃ v, escape kind s rule = .next (s.raiseCpu v)) ∨
      (s.params.softfloat = false ∧ escape kind s rule = .refused .nativePassthrough) ∨
      (kind = .waiting ∧ escape kind s rule = .next s.report) ∨ escape kind s rule = .next (rule s.normal) := by
  cases hl : s.inp.lock with
  | true => exact .inl ⟨_, escape_locked hl⟩
  | false =>
    by_cases hc : s.cr0 &&& 0xC = 0
    case neg => exact .inl ⟨_, escape_notAvailable hl hc⟩
    cases hs : s.params.softfloat with
    | false => exact .inr (.inl ⟨rfl, escape_native hl hc hs⟩)
    | true =>
      by_cases hp : kind = .waiting ∧ swES s.sw = true
      · obtain ⟨rfl, he⟩ := hp
        exact .inr (.inr (.inl ⟨rfl, escape_pending hl hc hs he⟩))
      · exact .inr (.inr (.inr (escape_ready ⟨hl, hc, hs, fun hk => by simpa [hk] using hp⟩ rule)))

theorem kindOf_nonwaiting (hi : isNonwaiting i = true) : kindOf i = .nonwaiting := if_pos hi

theorem kindOf_waiting (hi : isNonwaiting i = false) : kindOf i = .waiting := if_neg (by simp [hi])

theorem ne_wait_of_nonwaiting (hi : isNonwaiting i = true) : i ≠ .wait := by
  rintro rfl
  cases hi

/-- Settles O13: the LOCK check of FPU_ENTRY. -/
theorem lockFaults : Obligations.LockFaults :=
  fun _ s hw hl => (exec_eq_escape hw s).trans (escape_locked hl)

/-- Settles O14: the EM and TS check of FPU_ENTRY. -/
theorem deviceNotAvailable : Obligations.DeviceNotAvailable :=
  fun _ s hw hl hc => (exec_eq_escape hw s).trans (escape_notAvailable hl hc)

/-- Settles O15: FPU_ENTRY reports, and CR0.NE chooses how. -/
theorem pendingReported : Obligations.PendingReported := by
  intro i s hw hi hl hc hs he
  have hexec : exec i s = .next s.report := by
    rw [exec_eq_escape hw, kindOf_waiting hi, escape_pending hl hc hs he]
  refine ⟨fun hne => ?_, fun hne => ?_⟩
  · rw [hexec, report_of_ne hne]
  · rw [hexec, report_of_not_ne hne]

/-! ## The nonwaiting instructions (R434) -/

/-- A nonwaiting instruction requests no interrupt in either way. -/
theorem exec_nonwaiting_no_report (hi : isNonwaiting i = true) (h : exec i s = .next t) :
    t.neReq = s.neReq ∧ t.irq13 = s.irq13 := by
  have hw := ne_wait_of_nonwaiting hi
  rw [exec_eq_escape hw, kindOf_nonwaiting hi] at h
  rcases escape_outcomes .nonwaiting s (ruleOf i) with ⟨v, hx⟩ | ⟨-, hx⟩ | ⟨hk, -⟩ | hx
  · cases hx.symm.trans h
    exact ⟨rfl, rfl⟩
  · cases hx.symm.trans h
  · cases hk
  · cases hx.symm.trans h
    have hcpu := (ruleOf_effect hw s.normal).sameCpu
    exact ⟨hcpu.neReq, hcpu.irq13⟩

/-- With no region that faults every access succeeds. -/
theorem accessFault_nil (write : Bool) (a : Word32) (n : Nat) : accessFault [] write a n = none := by
  induction n generalizing a with
  | zero => rfl
  | succ n ih => exact ih (a + 1)

theorem writable_of_no_faults (hf : s.faultMap = []) (m : MemOp) (n : Nat) : Writable s m n := by
  rw [Writable, hf, accessFault_nil]

/-- Where no store faults, the rule of a nonwaiting instruction leaves the completion code alone. -/
theorem ruleOf_completion_of_nonwaiting (hi : isNonwaiting i = true) (hf : s.faultMap = []) :
    (ruleOf i s).completion = s.completion := by
  cases i with
  | fnstcw m | fnstswM2byte m =>
    rw [ruleOf, storeWordRule_writable _ (writable_of_no_faults hf m 2)]
    rfl
  | fnstenv m =>
    rw [ruleOf, storeEnvRule, ← imageOf_false, storeImage_writable (writable_of_no_faults hf m _)]
    rfl
  | fnsave m =>
    rw [ruleOf, saveRule, ← imageOf_true, storeImage_writable (writable_of_no_faults hf m _)]
    rfl
  | fnstswAx | fnclex | fninit | fneni | fndisi | fnsetpm => rfl
  | _ => cases hi

/-- Settles O16: FPU_ENTRY has no report for a nonwaiting instruction, whatever ES, and its rule completes. -/
theorem nonwaitingNeverReports : Obligations.NonwaitingNeverReports := by
  refine fun i s hi => ⟨fun t h => exec_nonwaiting_no_report hi h, fun hl hc hs hf => ?_⟩
  have hready : Ready (kindOf i) s := ⟨hl, hc, hs, fun hk => by rw [kindOf_nonwaiting hi] at hk; cases hk⟩
  exact ⟨_, exec_ready (ne_wait_of_nonwaiting hi) hready, ruleOf_completion_of_nonwaiting (s := s.normal) hi hf⟩

/-! ## No instruction stops in software mode (R400, R420) -/

theorem exec_wait_runs (s : State) : ∃ t, exec .wait s = .next t := by
  rcases execWait_cases s with h | h | h <;> exact ⟨_, h⟩

theorem exec_runs_of_softfloat (i : Instr) (hs : s.params.softfloat = true) : ∃ t, exec i s = .next t := by
  by_cases hw : i = .wait
  · exact hw ▸ exec_wait_runs s
  rw [exec_eq_escape hw]
  rcases escape_outcomes (kindOf i) s (ruleOf i) with ⟨v, h⟩ | ⟨hn, -⟩ | ⟨-, h⟩ | h
  · exact ⟨_, h⟩
  · rw [hs] at hn
    cases hn
  · exact ⟨_, h⟩
  · exact ⟨_, h⟩

/-- Settles O17: FPU_ENTRY alone refuses, and only in native mode; WAIT does not pass it. -/
theorem everyInstructionRuns : Obligations.EveryInstructionRuns :=
  ⟨fun i _ hs => exec_runs_of_softfloat i hs, exec_wait_runs,
    fun _ s hw hs hl hc => (exec_eq_escape hw s).trans (escape_native hl hc hs)⟩

/-! ## The deferred request (R426, R431) -/

theorem mfDue_of_nextBoundary (hn : s.neReq = true) (hd : s.params.mfDelivery = .nextBoundary) : s.mfDue = true := by
  simp [State.mfDue, hn, hd]

theorem step_of_mfDue (hf : s.cpuFault = none) (hmf : s.mfDue = true) : step s = .next s.deliverMF := by
  simp [step, hf, hmf]

theorem step_of_cpuFault {f : CpuFault} (hf : s.cpuFault = some f) : step s = .fault (.handedToCpu f.vector) := by
  simp [step, hf]

/-- Settles O11: a request that is due is delivered, and what `deliverMF` changes is what is listed. -/
theorem deferredRequest : Obligations.DeferredRequest :=
  ⟨fun _ hf hn hd => step_of_mfDue hf (mfDue_of_nextBoundary hn hd), fun _ _ hf => step_of_cpuFault hf⟩

end Sys2Proof.Machine
end

section
/-! SUPPORT. The invariant in the states after a hardware reset, at power-on and of a running machine. -/

namespace Sys2Proof.Machine

variable (rs : ResetState) (regs : Vector F80 8) (op : BitVec 11)

/-! ## What a reset writes -/

theorem summarised_resetOf : Summarised (State.resetOf rs regs op).sw (State.resetOf rs regs op).cw := by
  cases rs with
  | fninitLike => exact summarised_fninit
  | intelReset => exact (⟨by decide, by decide⟩ : Summarised 0x0000 0x0040)

theorem cwStored_resetOf : cwStored (State.resetOf rs regs op).cw = (State.resetOf rs regs op).cw := by
  cases rs with
  | fninitLike => exact (by decide : cwStored 0x037F = 0x037F)
  | intelReset => exact (by decide : cwStored 0x0040 = 0x0040)

/-- FNINIT_LIKE tags every register empty, whatever it holds; INTEL_RESET puts +0 in it and tags it zero (R71). -/
theorem tagsMatch_resetOf : TagsMatch (State.resetOf rs regs op) := by
  intro k hk
  cases rs with
  | fninitLike => exact absurd (Vector.getElem_replicate (n := 8) _) hk
  | intelReset =>
    have htag : (State.resetOf .intelReset regs op).tag k = .zero := Vector.getElem_replicate (n := 8) _
    have hreg : (State.resetOf .intelReset regs op).reg k = 0 := Vector.getElem_replicate (n := 8) _
    rw [htag, hreg]
    rfl

/-- A drawn `x87_op` has 11 significant bits (R48): the mask's other five meet zeros. -/
theorem resetOf_x87op_fits : (State.resetOf rs regs op).x87op &&& 0xF800 = 0 :=
  calc (0#5 ++ op) &&& (0x1F#5 ++ 0#11)
    _ = (0#5 &&& 0x1F#5) ++ (op &&& 0#11) := BitVec.and_append
    _ = 0#16 := by rw [BitVec.and_zero]; rfl

/-! ## The invariant -/

theorem inv_resetOf : Inv (State.resetOf rs regs op) :=
  inv_of (summarised_resetOf rs regs op) (cwStored_resetOf rs regs op) (tagsMatch_resetOf rs regs op)
    (resetOf_x87op_fits rs regs op) rfl

/-- RESET keeps memory and writes the rest of what the invariant speaks of, so of the state before it only memory counts. -/
theorem inv_hardwareReset {s : State} (hmem : Memory.wf s.mem = true) : Inv (s.hardwareReset rs regs op) :=
  ((inv_resetOf rs regs op).store hmem).congr rfl rfl rfl rfl rfl rfl

theorem ready_reset : Ready .waiting State.reset := ⟨rfl, rfl, rfl, fun _ => rfl⟩

/-- Settles O6: RESET needs only the canonical form of memory from the state before it. -/
theorem resetInv : Obligations.ResetInv :=
  ⟨inv_resetOf, ⟨_, _, rfl⟩, rfl, rfl, ready_reset,
    fun rs regs op _ => ⟨fun _ => rfl, rfl, rfl, fun h => inv_hardwareReset rs regs op h.memory⟩⟩

end Sys2Proof.Machine
end
